-- ==== Sys2Proof/Word.lean ====
section
/-! DEFINITION. The machine's word types. Bit vectors hold exactly what the spec treats as bits; bit 0 of the
spec's (card's) numbering is the most significant bit (00_scope R7), so card bits a through b of a W-bit value
are `extractLsb' (W - 1 - b) (b - a + 1)`. -/

namespace Sys2Proof

/-- A storage byte (00_scope R6, R13). -/
abbrev Byte := BitVec 8

/-- A half word, 2 bytes (R13). -/
abbrev Half := BitVec 16

/-- A word, 4 bytes, the width of a general register (R6 `XLEN`, R13). -/
abbrev Word := BitVec 32

/-- A double word, 8 bytes, the width of a floating-point register (R13, R23). -/
abbrev DWord := BitVec 64

/-- A storage address, 24 bits (R6 `ALEN`, R50). -/
abbrev Addr := BitVec 24

/-- A four-bit register number, also used for the other four-bit fields M1, L1, L2 (R87). -/
abbrev RegNum := BitVec 4

/-- A twelve-bit displacement, never sign-extended (R87). -/
abbrev Disp := BitVec 12

/-- The condition code, 0 to 3 (R28). -/
abbrev CC := BitVec 2

end Sys2Proof
end

