-- ==== Sys2Proof/Syntax.lean ====
section
/-! DEFINITION. The instructions: one constructor per row of spec/opcode_table.json, 145 in all, in operation-code
order (30_encoding R81 to R86, R92). A constructor's fields are the operands the spec gives the instruction; a field
the instruction does not use (R91: R2 of SPM, bits 12-15 of the shifts, I2 of TS, SDV, TDV, HDV and CKC, B1 and D1 of
IDL) is no field. L, L1 and L2 are the encoded fields, one less than the operand's length (R99). The extended
mnemonics of R97 are spellings of BC and BCR, CNOP (R98) of BCR: they are no instructions of their own. -/

namespace Sys2Proof

/-- An instruction (R92). -/
inductive Instr where
  -- RR (R81)
  | spm (r1 : RegNum)  -- 04 R130
  | balr (r1 r2 : RegNum)  -- 05 R131
  | bctr (r1 r2 : RegNum)  -- 06 R132
  | bcr (m1 r2 : RegNum)  -- 07 R133
  | ssk (r1 r2 : RegNum)  -- 08 R134
  | isk (r1 r2 : RegNum)  -- 09 R135
  | svc (i : Byte)  -- 0A R136
  | lpr (r1 r2 : RegNum)  -- 10 R137
  | lnr (r1 r2 : RegNum)  -- 11 R138
  | ltr (r1 r2 : RegNum)  -- 12 R139
  | lcr (r1 r2 : RegNum)  -- 13 R140
  | nr (r1 r2 : RegNum)  -- 14 R141
  | clr (r1 r2 : RegNum)  -- 15 R142
  | or (r1 r2 : RegNum)  -- 16 R143
  | xr (r1 r2 : RegNum)  -- 17 R144
  | lr (r1 r2 : RegNum)  -- 18 R145
  | cr (r1 r2 : RegNum)  -- 19 R146
  | ar (r1 r2 : RegNum)  -- 1A R147
  | sr (r1 r2 : RegNum)  -- 1B R148
  | mr (r1 r2 : RegNum)  -- 1C R149
  | dr (r1 r2 : RegNum)  -- 1D R150
  | alr (r1 r2 : RegNum)  -- 1E R151
  | slr (r1 r2 : RegNum)  -- 1F R152
  | lpdr (r1 r2 : RegNum)  -- 20 R190
  | lndr (r1 r2 : RegNum)  -- 21 R191
  | ltdr (r1 r2 : RegNum)  -- 22 R192
  | lcdr (r1 r2 : RegNum)  -- 23 R193
  | hdr (r1 r2 : RegNum)  -- 24 R194
  | ldr (r1 r2 : RegNum)  -- 28 R195
  | cdr (r1 r2 : RegNum)  -- 29 R196
  | adr (r1 r2 : RegNum)  -- 2A R197
  | sdr (r1 r2 : RegNum)  -- 2B R198
  | mdr (r1 r2 : RegNum)  -- 2C R199
  | ddr (r1 r2 : RegNum)  -- 2D R200
  | awr (r1 r2 : RegNum)  -- 2E R201
  | swr (r1 r2 : RegNum)  -- 2F R202
  | lper (r1 r2 : RegNum)  -- 30 R203
  | lner (r1 r2 : RegNum)  -- 31 R204
  | lter (r1 r2 : RegNum)  -- 32 R205
  | lcer (r1 r2 : RegNum)  -- 33 R206
  | her (r1 r2 : RegNum)  -- 34 R207
  | ler (r1 r2 : RegNum)  -- 38 R208
  | cer (r1 r2 : RegNum)  -- 39 R209
  | aer (r1 r2 : RegNum)  -- 3A R210
  | ser (r1 r2 : RegNum)  -- 3B R211
  | mer (r1 r2 : RegNum)  -- 3C R212
  | der (r1 r2 : RegNum)  -- 3D R213
  | aur (r1 r2 : RegNum)  -- 3E R214
  | sur (r1 r2 : RegNum)  -- 3F R215
  -- RX (R82)
  | sth (r1 x2 b2 : RegNum) (d2 : Disp)  -- 40 R230
  | la (r1 x2 b2 : RegNum) (d2 : Disp)  -- 41 R231
  | stc (r1 x2 b2 : RegNum) (d2 : Disp)  -- 42 R232
  | ic (r1 x2 b2 : RegNum) (d2 : Disp)  -- 43 R233
  | ex (r1 x2 b2 : RegNum) (d2 : Disp)  -- 44 R234
  | bal (r1 x2 b2 : RegNum) (d2 : Disp)  -- 45 R235
  | bct (r1 x2 b2 : RegNum) (d2 : Disp)  -- 46 R236
  | bc (m1 x2 b2 : RegNum) (d2 : Disp)  -- 47 R237
  | lh (r1 x2 b2 : RegNum) (d2 : Disp)  -- 48 R238
  | ch (r1 x2 b2 : RegNum) (d2 : Disp)  -- 49 R239
  | ah (r1 x2 b2 : RegNum) (d2 : Disp)  -- 4A R240
  | sh (r1 x2 b2 : RegNum) (d2 : Disp)  -- 4B R241
  | mh (r1 x2 b2 : RegNum) (d2 : Disp)  -- 4C R242
  | cvd (r1 x2 b2 : RegNum) (d2 : Disp)  -- 4E R243
  | cvb (r1 x2 b2 : RegNum) (d2 : Disp)  -- 4F R244
  | st (r1 x2 b2 : RegNum) (d2 : Disp)  -- 50 R245
  | n (r1 x2 b2 : RegNum) (d2 : Disp)  -- 54 R246
  | cl (r1 x2 b2 : RegNum) (d2 : Disp)  -- 55 R247
  | o (r1 x2 b2 : RegNum) (d2 : Disp)  -- 56 R248
  | x (r1 x2 b2 : RegNum) (d2 : Disp)  -- 57 R249
  | l (r1 x2 b2 : RegNum) (d2 : Disp)  -- 58 R250
  | c (r1 x2 b2 : RegNum) (d2 : Disp)  -- 59 R251
  | a (r1 x2 b2 : RegNum) (d2 : Disp)  -- 5A R252
  | s (r1 x2 b2 : RegNum) (d2 : Disp)  -- 5B R253
  | m (r1 x2 b2 : RegNum) (d2 : Disp)  -- 5C R254
  | d (r1 x2 b2 : RegNum) (d2 : Disp)  -- 5D R255
  | al (r1 x2 b2 : RegNum) (d2 : Disp)  -- 5E R256
  | sl (r1 x2 b2 : RegNum) (d2 : Disp)  -- 5F R257
  | std (r1 x2 b2 : RegNum) (d2 : Disp)  -- 60 R280
  | ld (r1 x2 b2 : RegNum) (d2 : Disp)  -- 68 R281
  | cd (r1 x2 b2 : RegNum) (d2 : Disp)  -- 69 R282
  | ad (r1 x2 b2 : RegNum) (d2 : Disp)  -- 6A R283
  | sd (r1 x2 b2 : RegNum) (d2 : Disp)  -- 6B R284
  | md (r1 x2 b2 : RegNum) (d2 : Disp)  -- 6C R285
  | dd (r1 x2 b2 : RegNum) (d2 : Disp)  -- 6D R286
  | aw (r1 x2 b2 : RegNum) (d2 : Disp)  -- 6E R287
  | sw (r1 x2 b2 : RegNum) (d2 : Disp)  -- 6F R288
  | ste (r1 x2 b2 : RegNum) (d2 : Disp)  -- 70 R289
  | le (r1 x2 b2 : RegNum) (d2 : Disp)  -- 78 R290
  | ce (r1 x2 b2 : RegNum) (d2 : Disp)  -- 79 R291
  | ae (r1 x2 b2 : RegNum) (d2 : Disp)  -- 7A R292
  | se (r1 x2 b2 : RegNum) (d2 : Disp)  -- 7B R293
  | me (r1 x2 b2 : RegNum) (d2 : Disp)  -- 7C R294
  | de (r1 x2 b2 : RegNum) (d2 : Disp)  -- 7D R295
  | au (r1 x2 b2 : RegNum) (d2 : Disp)  -- 7E R296
  | su (r1 x2 b2 : RegNum) (d2 : Disp)  -- 7F R297
  -- RS and SI (R83, R84)
  | idl (i2 : Byte)  -- 80 R310
  | pc (i2 : Byte) (b1 : RegNum) (d1 : Disp)  -- 82 R311
  | dig (i2 : Byte) (b1 : RegNum) (d1 : Disp)  -- 83 R312
  | wrd (i2 : Byte) (b1 : RegNum) (d1 : Disp)  -- 84 R313
  | rdd (i2 : Byte) (b1 : RegNum) (d1 : Disp)  -- 85 R314
  | bxh (r1 r3 b2 : RegNum) (d2 : Disp)  -- 86 R315
  | bxle (r1 r3 b2 : RegNum) (d2 : Disp)  -- 87 R316
  | srl (r1 b2 : RegNum) (d2 : Disp)  -- 88 R317
  | sll (r1 b2 : RegNum) (d2 : Disp)  -- 89 R318
  | sra (r1 b2 : RegNum) (d2 : Disp)  -- 8A R319
  | sla (r1 b2 : RegNum) (d2 : Disp)  -- 8B R320
  | srdl (r1 b2 : RegNum) (d2 : Disp)  -- 8C R321
  | sldl (r1 b2 : RegNum) (d2 : Disp)  -- 8D R322
  | srda (r1 b2 : RegNum) (d2 : Disp)  -- 8E R323
  | slda (r1 b2 : RegNum) (d2 : Disp)  -- 8F R324
  | stm (r1 r3 b2 : RegNum) (d2 : Disp)  -- 90 R325
  | tm (i2 : Byte) (b1 : RegNum) (d1 : Disp)  -- 91 R326
  | mvi (i2 : Byte) (b1 : RegNum) (d1 : Disp)  -- 92 R327
  | ts (b1 : RegNum) (d1 : Disp)  -- 93 R328
  | ni (i2 : Byte) (b1 : RegNum) (d1 : Disp)  -- 94 R329
  | cli (i2 : Byte) (b1 : RegNum) (d1 : Disp)  -- 95 R330
  | oi (i2 : Byte) (b1 : RegNum) (d1 : Disp)  -- 96 R331
  | xi (i2 : Byte) (b1 : RegNum) (d1 : Disp)  -- 97 R332
  | lm (r1 r3 b2 : RegNum) (d2 : Disp)  -- 98 R333
  | sdv (b1 : RegNum) (d1 : Disp)  -- 9C R334
  | tdv (b1 : RegNum) (d1 : Disp)  -- 9D R335
  | hdv (b1 : RegNum) (d1 : Disp)  -- 9E R336
  | ckc (b1 : RegNum) (d1 : Disp)  -- 9F R337
  -- SS, one length (R85)
  | ssp (l : Byte) (b1 : RegNum) (d1 : Disp) (b2 : RegNum) (d2 : Disp)  -- D0 R360
  | mvn (l : Byte) (b1 : RegNum) (d1 : Disp) (b2 : RegNum) (d2 : Disp)  -- D1 R361
  | mvc (l : Byte) (b1 : RegNum) (d1 : Disp) (b2 : RegNum) (d2 : Disp)  -- D2 R362
  | mvz (l : Byte) (b1 : RegNum) (d1 : Disp) (b2 : RegNum) (d2 : Disp)  -- D3 R363
  | nc (l : Byte) (b1 : RegNum) (d1 : Disp) (b2 : RegNum) (d2 : Disp)  -- D4 R364
  | clc (l : Byte) (b1 : RegNum) (d1 : Disp) (b2 : RegNum) (d2 : Disp)  -- D5 R365
  | oc (l : Byte) (b1 : RegNum) (d1 : Disp) (b2 : RegNum) (d2 : Disp)  -- D6 R366
  | xc (l : Byte) (b1 : RegNum) (d1 : Disp) (b2 : RegNum) (d2 : Disp)  -- D7 R367
  | lsp (l : Byte) (b1 : RegNum) (d1 : Disp) (b2 : RegNum) (d2 : Disp)  -- D8 R368
  | tr (l : Byte) (b1 : RegNum) (d1 : Disp) (b2 : RegNum) (d2 : Disp)  -- DC R369
  | trt (l : Byte) (b1 : RegNum) (d1 : Disp) (b2 : RegNum) (d2 : Disp)  -- DD R370
  | ed (l : Byte) (b1 : RegNum) (d1 : Disp) (b2 : RegNum) (d2 : Disp)  -- DE R371
  | edmk (l : Byte) (b1 : RegNum) (d1 : Disp) (b2 : RegNum) (d2 : Disp)  -- DF R372
  -- SS, two lengths (R86)
  | mvo (l1 l2 b1 : RegNum) (d1 : Disp) (b2 : RegNum) (d2 : Disp)  -- F1 R400
  | pack (l1 l2 b1 : RegNum) (d1 : Disp) (b2 : RegNum) (d2 : Disp)  -- F2 R401
  | unpk (l1 l2 b1 : RegNum) (d1 : Disp) (b2 : RegNum) (d2 : Disp)  -- F3 R402
  | zap (l1 l2 b1 : RegNum) (d1 : Disp) (b2 : RegNum) (d2 : Disp)  -- F8 R403
  | cp (l1 l2 b1 : RegNum) (d1 : Disp) (b2 : RegNum) (d2 : Disp)  -- F9 R404
  | ap (l1 l2 b1 : RegNum) (d1 : Disp) (b2 : RegNum) (d2 : Disp)  -- FA R405
  | sp (l1 l2 b1 : RegNum) (d1 : Disp) (b2 : RegNum) (d2 : Disp)  -- FB R406
  | mp (l1 l2 b1 : RegNum) (d1 : Disp) (b2 : RegNum) (d2 : Disp)  -- FC R407
  | dp (l1 l2 b1 : RegNum) (d1 : Disp) (b2 : RegNum) (d2 : Disp)  -- FD R408
  deriving DecidableEq, Repr

/-- The 13 privileged operations (R100). -/
def Instr.privileged : Instr → Bool
  | .ssk _ _ => true
  | .isk _ _ => true
  | .idl _ => true
  | .pc _ _ _ => true
  | .dig _ _ _ => true
  | .wrd _ _ _ => true
  | .rdd _ _ _ => true
  | .sdv _ _ => true
  | .tdv _ _ => true
  | .hdv _ _ => true
  | .ckc _ _ => true
  | .ssp _ _ _ _ _ => true
  | .lsp _ _ _ _ _ => true
  | .spm _ => false
  | .balr _ _ => false
  | .bctr _ _ => false
  | .bcr _ _ => false
  | .svc _ => false
  | .lpr _ _ => false
  | .lnr _ _ => false
  | .ltr _ _ => false
  | .lcr _ _ => false
  | .nr _ _ => false
  | .clr _ _ => false
  | .or _ _ => false
  | .xr _ _ => false
  | .lr _ _ => false
  | .cr _ _ => false
  | .ar _ _ => false
  | .sr _ _ => false
  | .mr _ _ => false
  | .dr _ _ => false
  | .alr _ _ => false
  | .slr _ _ => false
  | .lpdr _ _ => false
  | .lndr _ _ => false
  | .ltdr _ _ => false
  | .lcdr _ _ => false
  | .hdr _ _ => false
  | .ldr _ _ => false
  | .cdr _ _ => false
  | .adr _ _ => false
  | .sdr _ _ => false
  | .mdr _ _ => false
  | .ddr _ _ => false
  | .awr _ _ => false
  | .swr _ _ => false
  | .lper _ _ => false
  | .lner _ _ => false
  | .lter _ _ => false
  | .lcer _ _ => false
  | .her _ _ => false
  | .ler _ _ => false
  | .cer _ _ => false
  | .aer _ _ => false
  | .ser _ _ => false
  | .mer _ _ => false
  | .der _ _ => false
  | .aur _ _ => false
  | .sur _ _ => false
  | .sth _ _ _ _ => false
  | .la _ _ _ _ => false
  | .stc _ _ _ _ => false
  | .ic _ _ _ _ => false
  | .ex _ _ _ _ => false
  | .bal _ _ _ _ => false
  | .bct _ _ _ _ => false
  | .bc _ _ _ _ => false
  | .lh _ _ _ _ => false
  | .ch _ _ _ _ => false
  | .ah _ _ _ _ => false
  | .sh _ _ _ _ => false
  | .mh _ _ _ _ => false
  | .cvd _ _ _ _ => false
  | .cvb _ _ _ _ => false
  | .st _ _ _ _ => false
  | .n _ _ _ _ => false
  | .cl _ _ _ _ => false
  | .o _ _ _ _ => false
  | .x _ _ _ _ => false
  | .l _ _ _ _ => false
  | .c _ _ _ _ => false
  | .a _ _ _ _ => false
  | .s _ _ _ _ => false
  | .m _ _ _ _ => false
  | .d _ _ _ _ => false
  | .al _ _ _ _ => false
  | .sl _ _ _ _ => false
  | .std _ _ _ _ => false
  | .ld _ _ _ _ => false
  | .cd _ _ _ _ => false
  | .ad _ _ _ _ => false
  | .sd _ _ _ _ => false
  | .md _ _ _ _ => false
  | .dd _ _ _ _ => false
  | .aw _ _ _ _ => false
  | .sw _ _ _ _ => false
  | .ste _ _ _ _ => false
  | .le _ _ _ _ => false
  | .ce _ _ _ _ => false
  | .ae _ _ _ _ => false
  | .se _ _ _ _ => false
  | .me _ _ _ _ => false
  | .de _ _ _ _ => false
  | .au _ _ _ _ => false
  | .su _ _ _ _ => false
  | .bxh _ _ _ _ => false
  | .bxle _ _ _ _ => false
  | .srl _ _ _ => false
  | .sll _ _ _ => false
  | .sra _ _ _ => false
  | .sla _ _ _ => false
  | .srdl _ _ _ => false
  | .sldl _ _ _ => false
  | .srda _ _ _ => false
  | .slda _ _ _ => false
  | .stm _ _ _ _ => false
  | .tm _ _ _ => false
  | .mvi _ _ _ => false
  | .ts _ _ => false
  | .ni _ _ _ => false
  | .cli _ _ _ => false
  | .oi _ _ _ => false
  | .xi _ _ _ => false
  | .lm _ _ _ _ => false
  | .mvn _ _ _ _ _ => false
  | .mvc _ _ _ _ _ => false
  | .mvz _ _ _ _ _ => false
  | .nc _ _ _ _ _ => false
  | .clc _ _ _ _ _ => false
  | .oc _ _ _ _ _ => false
  | .xc _ _ _ _ _ => false
  | .tr _ _ _ _ _ => false
  | .trt _ _ _ _ _ => false
  | .ed _ _ _ _ _ => false
  | .edmk _ _ _ _ _ => false
  | .mvo _ _ _ _ _ _ => false
  | .pack _ _ _ _ _ _ => false
  | .unpk _ _ _ _ _ _ => false
  | .zap _ _ _ _ _ _ => false
  | .cp _ _ _ _ _ _ => false
  | .ap _ _ _ _ _ _ => false
  | .sp _ _ _ _ _ _ => false
  | .mp _ _ _ _ _ _ => false
  | .dp _ _ _ _ _ _ => false

end Sys2Proof
end

