-- ==== Sys2Proof/WellFormed.lean ====
section
/-! DEFINITION. Well-formed instructions: the register-number and length rules of 60_exceptions R428 item (5), which
software must obey (70 R468). They are no decode errors (30_encoding R95): an instruction that breaks one decodes, and
its own rule raises AddressError(specification) when it is executed. -/

namespace Sys2Proof

/-- The register of an even-odd pair must be even (10_state R21, 40 R127). -/
def evenRegister (r : RegNum) : Bool := r.toNat % 2 == 0

/-- The floating-point registers are numbers 0, 2, 4 and 6 (10_state R23, 41 R181). -/
def floatRegister (r : RegNum) : Bool := r == 0 || r == 2 || r == 4 || r == 6

/-- The length rule of MP and DP: not (`L2 > 7` or `L2 >= L1`) (46 R407, R408). -/
def productLengths (l1 l2 : RegNum) : Bool := decide (l2.toNat ≤ 7) && decide (l2.toNat < l1.toNat)

/-- Every register number and length of the instruction is one its rule accepts (R428 item (5)). -/
def Instr.wellFormed : Instr → Bool
  | .spm _ => true
  | .balr _ _ => true
  | .bctr _ _ => true
  | .bcr _ _ => true
  | .ssk _ _ => true
  | .isk _ _ => true
  | .svc _ => true
  | .lpr _ _ => true
  | .lnr _ _ => true
  | .ltr _ _ => true
  | .lcr _ _ => true
  | .nr _ _ => true
  | .clr _ _ => true
  | .or _ _ => true
  | .xr _ _ => true
  | .lr _ _ => true
  | .cr _ _ => true
  | .ar _ _ => true
  | .sr _ _ => true
  | .mr r1 _ => evenRegister r1
  | .dr r1 _ => evenRegister r1
  | .alr _ _ => true
  | .slr _ _ => true
  | .lpdr r1 r2 => floatRegister r1 && floatRegister r2
  | .lndr r1 r2 => floatRegister r1 && floatRegister r2
  | .ltdr r1 r2 => floatRegister r1 && floatRegister r2
  | .lcdr r1 r2 => floatRegister r1 && floatRegister r2
  | .hdr r1 r2 => floatRegister r1 && floatRegister r2
  | .ldr r1 r2 => floatRegister r1 && floatRegister r2
  | .cdr r1 r2 => floatRegister r1 && floatRegister r2
  | .adr r1 r2 => floatRegister r1 && floatRegister r2
  | .sdr r1 r2 => floatRegister r1 && floatRegister r2
  | .mdr r1 r2 => floatRegister r1 && floatRegister r2
  | .ddr r1 r2 => floatRegister r1 && floatRegister r2
  | .awr r1 r2 => floatRegister r1 && floatRegister r2
  | .swr r1 r2 => floatRegister r1 && floatRegister r2
  | .lper r1 r2 => floatRegister r1 && floatRegister r2
  | .lner r1 r2 => floatRegister r1 && floatRegister r2
  | .lter r1 r2 => floatRegister r1 && floatRegister r2
  | .lcer r1 r2 => floatRegister r1 && floatRegister r2
  | .her r1 r2 => floatRegister r1 && floatRegister r2
  | .ler r1 r2 => floatRegister r1 && floatRegister r2
  | .cer r1 r2 => floatRegister r1 && floatRegister r2
  | .aer r1 r2 => floatRegister r1 && floatRegister r2
  | .ser r1 r2 => floatRegister r1 && floatRegister r2
  | .mer r1 r2 => floatRegister r1 && floatRegister r2
  | .der r1 r2 => floatRegister r1 && floatRegister r2
  | .aur r1 r2 => floatRegister r1 && floatRegister r2
  | .sur r1 r2 => floatRegister r1 && floatRegister r2
  | .sth _ _ _ _ => true
  | .la _ _ _ _ => true
  | .stc _ _ _ _ => true
  | .ic _ _ _ _ => true
  | .ex _ _ _ _ => true
  | .bal _ _ _ _ => true
  | .bct _ _ _ _ => true
  | .bc _ _ _ _ => true
  | .lh _ _ _ _ => true
  | .ch _ _ _ _ => true
  | .ah _ _ _ _ => true
  | .sh _ _ _ _ => true
  | .mh _ _ _ _ => true
  | .cvd _ _ _ _ => true
  | .cvb _ _ _ _ => true
  | .st _ _ _ _ => true
  | .n _ _ _ _ => true
  | .cl _ _ _ _ => true
  | .o _ _ _ _ => true
  | .x _ _ _ _ => true
  | .l _ _ _ _ => true
  | .c _ _ _ _ => true
  | .a _ _ _ _ => true
  | .s _ _ _ _ => true
  | .m r1 _ _ _ => evenRegister r1
  | .d r1 _ _ _ => evenRegister r1
  | .al _ _ _ _ => true
  | .sl _ _ _ _ => true
  | .std r1 _ _ _ => floatRegister r1
  | .ld r1 _ _ _ => floatRegister r1
  | .cd r1 _ _ _ => floatRegister r1
  | .ad r1 _ _ _ => floatRegister r1
  | .sd r1 _ _ _ => floatRegister r1
  | .md r1 _ _ _ => floatRegister r1
  | .dd r1 _ _ _ => floatRegister r1
  | .aw r1 _ _ _ => floatRegister r1
  | .sw r1 _ _ _ => floatRegister r1
  | .ste r1 _ _ _ => floatRegister r1
  | .le r1 _ _ _ => floatRegister r1
  | .ce r1 _ _ _ => floatRegister r1
  | .ae r1 _ _ _ => floatRegister r1
  | .se r1 _ _ _ => floatRegister r1
  | .me r1 _ _ _ => floatRegister r1
  | .de r1 _ _ _ => floatRegister r1
  | .au r1 _ _ _ => floatRegister r1
  | .su r1 _ _ _ => floatRegister r1
  | .idl _ => true
  | .pc _ _ _ => true
  | .dig _ _ _ => true
  | .wrd _ _ _ => true
  | .rdd _ _ _ => true
  | .bxh _ _ _ _ => true
  | .bxle _ _ _ _ => true
  | .srl _ _ _ => true
  | .sll _ _ _ => true
  | .sra _ _ _ => true
  | .sla _ _ _ => true
  | .srdl r1 _ _ => evenRegister r1
  | .sldl r1 _ _ => evenRegister r1
  | .srda r1 _ _ => evenRegister r1
  | .slda r1 _ _ => evenRegister r1
  | .stm _ _ _ _ => true
  | .tm _ _ _ => true
  | .mvi _ _ _ => true
  | .ts _ _ => true
  | .ni _ _ _ => true
  | .cli _ _ _ => true
  | .oi _ _ _ => true
  | .xi _ _ _ => true
  | .lm _ _ _ _ => true
  | .sdv _ _ => true
  | .tdv _ _ => true
  | .hdv _ _ => true
  | .ckc _ _ => true
  | .ssp _ _ _ _ _ => true
  | .mvn _ _ _ _ _ => true
  | .mvc _ _ _ _ _ => true
  | .mvz _ _ _ _ _ => true
  | .nc _ _ _ _ _ => true
  | .clc _ _ _ _ _ => true
  | .oc _ _ _ _ _ => true
  | .xc _ _ _ _ _ => true
  | .lsp _ _ _ _ _ => true
  | .tr _ _ _ _ _ => true
  | .trt _ _ _ _ _ => true
  | .ed _ _ _ _ _ => true
  | .edmk _ _ _ _ _ => true
  | .mvo _ _ _ _ _ _ => true
  | .pack _ _ _ _ _ _ => true
  | .unpk _ _ _ _ _ _ => true
  | .zap _ _ _ _ _ _ => true
  | .cp _ _ _ _ _ _ => true
  | .ap _ _ _ _ _ _ => true
  | .sp _ _ _ _ _ _ => true
  | .mp l1 l2 _ _ _ _ => productLengths l1 l2
  | .dp l1 l2 _ _ _ _ => productLengths l1 l2

end Sys2Proof
end

