-- ==== Sys2Proof/Decode.lean ====
section
/-! DEFINITION. Decoding (30_encoding R80 to R95) and, after it, encoding. Decoding is total on byte strings: an
instruction, an operation code the card leaves unassigned (named), or too few bytes. -/

namespace Sys2Proof

/-- What a byte string decodes to (R95). -/
inductive Decoded where
  /-- one of the 145 instructions -/
  | instr (i : Instr)
  /-- an operation code to which R92 assigns no instruction (R93) -/
  | unassigned (op : Byte)
  /-- fewer bytes than the operation code's length (R80); a fetch never yields this -/
  | truncated
  deriving DecidableEq, Repr

/-- The length in bytes of an instruction by the first two bits of its operation code, assigned or not (R80). -/
def instrLength (op : Byte) : Nat :=
  if op.toNat < 0x40 then 2 else if op.toNat < 0xC0 then 4 else 6

/-- Bits 0-3 of a byte, card numbering. -/
def hiNibble (b : Byte) : BitVec 4 := b.extractLsb' 4 4

/-- Bits 4-7 of a byte, card numbering. -/
def loNibble (b : Byte) : BitVec 4 := b.extractLsb' 0 4

/-- The 12-bit displacement in bits 4-15 of the two bytes that hold a base and a displacement (R82 to R86). -/
def dispOf (hi lo : Byte) : Disp := loNibble hi ++ lo

/-- RR instructions, codes 00 to 3F (R81, R92). `b1` is instruction bits 8-15. -/
def decodeTwo (op : Nat) (b1 : Byte) : Option Instr :=
  let r1 := hiNibble b1
  let r2 := loNibble b1
  match op with
  | 0x04 => some (.spm r1)
  | 0x05 => some (.balr r1 r2)
  | 0x06 => some (.bctr r1 r2)
  | 0x07 => some (.bcr r1 r2)
  | 0x08 => some (.ssk r1 r2)
  | 0x09 => some (.isk r1 r2)
  | 0x0A => some (.svc b1)
  | 0x10 => some (.lpr r1 r2)
  | 0x11 => some (.lnr r1 r2)
  | 0x12 => some (.ltr r1 r2)
  | 0x13 => some (.lcr r1 r2)
  | 0x14 => some (.nr r1 r2)
  | 0x15 => some (.clr r1 r2)
  | 0x16 => some (.or r1 r2)
  | 0x17 => some (.xr r1 r2)
  | 0x18 => some (.lr r1 r2)
  | 0x19 => some (.cr r1 r2)
  | 0x1A => some (.ar r1 r2)
  | 0x1B => some (.sr r1 r2)
  | 0x1C => some (.mr r1 r2)
  | 0x1D => some (.dr r1 r2)
  | 0x1E => some (.alr r1 r2)
  | 0x1F => some (.slr r1 r2)
  | 0x20 => some (.lpdr r1 r2)
  | 0x21 => some (.lndr r1 r2)
  | 0x22 => some (.ltdr r1 r2)
  | 0x23 => some (.lcdr r1 r2)
  | 0x24 => some (.hdr r1 r2)
  | 0x28 => some (.ldr r1 r2)
  | 0x29 => some (.cdr r1 r2)
  | 0x2A => some (.adr r1 r2)
  | 0x2B => some (.sdr r1 r2)
  | 0x2C => some (.mdr r1 r2)
  | 0x2D => some (.ddr r1 r2)
  | 0x2E => some (.awr r1 r2)
  | 0x2F => some (.swr r1 r2)
  | 0x30 => some (.lper r1 r2)
  | 0x31 => some (.lner r1 r2)
  | 0x32 => some (.lter r1 r2)
  | 0x33 => some (.lcer r1 r2)
  | 0x34 => some (.her r1 r2)
  | 0x38 => some (.ler r1 r2)
  | 0x39 => some (.cer r1 r2)
  | 0x3A => some (.aer r1 r2)
  | 0x3B => some (.ser r1 r2)
  | 0x3C => some (.mer r1 r2)
  | 0x3D => some (.der r1 r2)
  | 0x3E => some (.aur r1 r2)
  | 0x3F => some (.sur r1 r2)
  | _ => none

/-- RX, RS and SI instructions, codes 40 to BF (R82 to R84, R92). `b1`, `b2`, `b3` are instruction bits 8-15, 16-23
and 24-31. -/
def decodeFour (op : Nat) (b1 b2 b3 : Byte) : Option Instr :=
  let f1 := hiNibble b1
  let f2 := loNibble b1
  let b := hiNibble b2
  let d := dispOf b2 b3
  match op with
  | 0x40 => some (.sth f1 f2 b d)
  | 0x41 => some (.la f1 f2 b d)
  | 0x42 => some (.stc f1 f2 b d)
  | 0x43 => some (.ic f1 f2 b d)
  | 0x44 => some (.ex f1 f2 b d)
  | 0x45 => some (.bal f1 f2 b d)
  | 0x46 => some (.bct f1 f2 b d)
  | 0x47 => some (.bc f1 f2 b d)
  | 0x48 => some (.lh f1 f2 b d)
  | 0x49 => some (.ch f1 f2 b d)
  | 0x4A => some (.ah f1 f2 b d)
  | 0x4B => some (.sh f1 f2 b d)
  | 0x4C => some (.mh f1 f2 b d)
  | 0x4E => some (.cvd f1 f2 b d)
  | 0x4F => some (.cvb f1 f2 b d)
  | 0x50 => some (.st f1 f2 b d)
  | 0x54 => some (.n f1 f2 b d)
  | 0x55 => some (.cl f1 f2 b d)
  | 0x56 => some (.o f1 f2 b d)
  | 0x57 => some (.x f1 f2 b d)
  | 0x58 => some (.l f1 f2 b d)
  | 0x59 => some (.c f1 f2 b d)
  | 0x5A => some (.a f1 f2 b d)
  | 0x5B => some (.s f1 f2 b d)
  | 0x5C => some (.m f1 f2 b d)
  | 0x5D => some (.d f1 f2 b d)
  | 0x5E => some (.al f1 f2 b d)
  | 0x5F => some (.sl f1 f2 b d)
  | 0x60 => some (.std f1 f2 b d)
  | 0x68 => some (.ld f1 f2 b d)
  | 0x69 => some (.cd f1 f2 b d)
  | 0x6A => some (.ad f1 f2 b d)
  | 0x6B => some (.sd f1 f2 b d)
  | 0x6C => some (.md f1 f2 b d)
  | 0x6D => some (.dd f1 f2 b d)
  | 0x6E => some (.aw f1 f2 b d)
  | 0x6F => some (.sw f1 f2 b d)
  | 0x70 => some (.ste f1 f2 b d)
  | 0x78 => some (.le f1 f2 b d)
  | 0x79 => some (.ce f1 f2 b d)
  | 0x7A => some (.ae f1 f2 b d)
  | 0x7B => some (.se f1 f2 b d)
  | 0x7C => some (.me f1 f2 b d)
  | 0x7D => some (.de f1 f2 b d)
  | 0x7E => some (.au f1 f2 b d)
  | 0x7F => some (.su f1 f2 b d)
  | 0x80 => some (.idl b1)
  | 0x82 => some (.pc b1 b d)
  | 0x83 => some (.dig b1 b d)
  | 0x84 => some (.wrd b1 b d)
  | 0x85 => some (.rdd b1 b d)
  | 0x86 => some (.bxh f1 f2 b d)
  | 0x87 => some (.bxle f1 f2 b d)
  | 0x88 => some (.srl f1 b d)
  | 0x89 => some (.sll f1 b d)
  | 0x8A => some (.sra f1 b d)
  | 0x8B => some (.sla f1 b d)
  | 0x8C => some (.srdl f1 b d)
  | 0x8D => some (.sldl f1 b d)
  | 0x8E => some (.srda f1 b d)
  | 0x8F => some (.slda f1 b d)
  | 0x90 => some (.stm f1 f2 b d)
  | 0x91 => some (.tm b1 b d)
  | 0x92 => some (.mvi b1 b d)
  | 0x93 => some (.ts b d)
  | 0x94 => some (.ni b1 b d)
  | 0x95 => some (.cli b1 b d)
  | 0x96 => some (.oi b1 b d)
  | 0x97 => some (.xi b1 b d)
  | 0x98 => some (.lm f1 f2 b d)
  | 0x9C => some (.sdv b d)
  | 0x9D => some (.tdv b d)
  | 0x9E => some (.hdv b d)
  | 0x9F => some (.ckc b d)
  | _ => none

/-- SS instructions, codes C0 to FF (R85, R86, R92). `b1` to `b5` are the five bytes after the operation code. -/
def decodeSix (op : Nat) (b1 b2 b3 b4 b5 : Byte) : Option Instr :=
  let l1 := hiNibble b1
  let l2 := loNibble b1
  let base1 := hiNibble b2
  let d1 := dispOf b2 b3
  let base2 := hiNibble b4
  let d2 := dispOf b4 b5
  match op with
  | 0xD0 => some (.ssp b1 base1 d1 base2 d2)
  | 0xD1 => some (.mvn b1 base1 d1 base2 d2)
  | 0xD2 => some (.mvc b1 base1 d1 base2 d2)
  | 0xD3 => some (.mvz b1 base1 d1 base2 d2)
  | 0xD4 => some (.nc b1 base1 d1 base2 d2)
  | 0xD5 => some (.clc b1 base1 d1 base2 d2)
  | 0xD6 => some (.oc b1 base1 d1 base2 d2)
  | 0xD7 => some (.xc b1 base1 d1 base2 d2)
  | 0xD8 => some (.lsp b1 base1 d1 base2 d2)
  | 0xDC => some (.tr b1 base1 d1 base2 d2)
  | 0xDD => some (.trt b1 base1 d1 base2 d2)
  | 0xDE => some (.ed b1 base1 d1 base2 d2)
  | 0xDF => some (.edmk b1 base1 d1 base2 d2)
  | 0xF1 => some (.mvo l1 l2 base1 d1 base2 d2)
  | 0xF2 => some (.pack l1 l2 base1 d1 base2 d2)
  | 0xF3 => some (.unpk l1 l2 base1 d1 base2 d2)
  | 0xF8 => some (.zap l1 l2 base1 d1 base2 d2)
  | 0xF9 => some (.cp l1 l2 base1 d1 base2 d2)
  | 0xFA => some (.ap l1 l2 base1 d1 base2 d2)
  | 0xFB => some (.sp l1 l2 base1 d1 base2 d2)
  | 0xFC => some (.mp l1 l2 base1 d1 base2 d2)
  | 0xFD => some (.dp l1 l2 base1 d1 base2 d2)
  | _ => none

/-- An instruction found, or the unassigned code named (R95 step (4)). -/
def namedOr (op : Byte) : Option Instr → Decoded
  | some i => .instr i
  | none => .unassigned op

/-- The decoder: the leading bytes of the string, lowest address first (R95). Bytes after the instruction are not
looked at. -/
def decode : List Byte → Decoded
  | [] => .truncated
  | op :: rest =>
    match instrLength op, rest with
    | 2, b1 :: _ => namedOr op (decodeTwo op.toNat b1)
    | 4, b1 :: b2 :: b3 :: _ => namedOr op (decodeFour op.toNat b1 b2 b3)
    | 6, b1 :: b2 :: b3 :: b4 :: b5 :: _ => namedOr op (decodeSix op.toNat b1 b2 b3 b4 b5)
    | _, _ => .truncated

/-! ## Encoding -/

/-- RR (R81). -/
def encRR (op : Byte) (r1 r2 : RegNum) : List Byte := [op, r1 ++ r2]

/-- RX and RS (R82, R83). -/
def encRX (op : Byte) (r1 x2 b2 : RegNum) (d2 : Disp) : List Byte :=
  [op, r1 ++ x2, b2 ++ d2.extractLsb' 8 4, d2.extractLsb' 0 8]

/-- SI (R84). -/
def encSI (op i2 : Byte) (b1 : RegNum) (d1 : Disp) : List Byte :=
  [op, i2, b1 ++ d1.extractLsb' 8 4, d1.extractLsb' 0 8]

/-- SS with one length (R85). -/
def encSS (op l : Byte) (b1 : RegNum) (d1 : Disp) (b2 : RegNum) (d2 : Disp) : List Byte :=
  [op, l, b1 ++ d1.extractLsb' 8 4, d1.extractLsb' 0 8, b2 ++ d2.extractLsb' 8 4, d2.extractLsb' 0 8]

/-- SS with two lengths (R86): the two length fields fill the byte of the one length. -/
def encSS2 (op : Byte) (l1 l2 b1 : RegNum) (d1 : Disp) (b2 : RegNum) (d2 : Disp) : List Byte :=
  encSS op (l1 ++ l2) b1 d1 b2 d2

/-- The bytes of an instruction, lowest address first (R81 to R86, R92); a field the instruction does not use (R91)
is zero. -/
def encode : Instr → List Byte
  | .spm r1 => encRR 0x04 r1 0
  | .balr r1 r2 => encRR 0x05 r1 r2
  | .bctr r1 r2 => encRR 0x06 r1 r2
  | .bcr m1 r2 => encRR 0x07 m1 r2
  | .ssk r1 r2 => encRR 0x08 r1 r2
  | .isk r1 r2 => encRR 0x09 r1 r2
  | .svc i => [0x0A, i]
  | .lpr r1 r2 => encRR 0x10 r1 r2
  | .lnr r1 r2 => encRR 0x11 r1 r2
  | .ltr r1 r2 => encRR 0x12 r1 r2
  | .lcr r1 r2 => encRR 0x13 r1 r2
  | .nr r1 r2 => encRR 0x14 r1 r2
  | .clr r1 r2 => encRR 0x15 r1 r2
  | .or r1 r2 => encRR 0x16 r1 r2
  | .xr r1 r2 => encRR 0x17 r1 r2
  | .lr r1 r2 => encRR 0x18 r1 r2
  | .cr r1 r2 => encRR 0x19 r1 r2
  | .ar r1 r2 => encRR 0x1A r1 r2
  | .sr r1 r2 => encRR 0x1B r1 r2
  | .mr r1 r2 => encRR 0x1C r1 r2
  | .dr r1 r2 => encRR 0x1D r1 r2
  | .alr r1 r2 => encRR 0x1E r1 r2
  | .slr r1 r2 => encRR 0x1F r1 r2
  | .lpdr r1 r2 => encRR 0x20 r1 r2
  | .lndr r1 r2 => encRR 0x21 r1 r2
  | .ltdr r1 r2 => encRR 0x22 r1 r2
  | .lcdr r1 r2 => encRR 0x23 r1 r2
  | .hdr r1 r2 => encRR 0x24 r1 r2
  | .ldr r1 r2 => encRR 0x28 r1 r2
  | .cdr r1 r2 => encRR 0x29 r1 r2
  | .adr r1 r2 => encRR 0x2A r1 r2
  | .sdr r1 r2 => encRR 0x2B r1 r2
  | .mdr r1 r2 => encRR 0x2C r1 r2
  | .ddr r1 r2 => encRR 0x2D r1 r2
  | .awr r1 r2 => encRR 0x2E r1 r2
  | .swr r1 r2 => encRR 0x2F r1 r2
  | .lper r1 r2 => encRR 0x30 r1 r2
  | .lner r1 r2 => encRR 0x31 r1 r2
  | .lter r1 r2 => encRR 0x32 r1 r2
  | .lcer r1 r2 => encRR 0x33 r1 r2
  | .her r1 r2 => encRR 0x34 r1 r2
  | .ler r1 r2 => encRR 0x38 r1 r2
  | .cer r1 r2 => encRR 0x39 r1 r2
  | .aer r1 r2 => encRR 0x3A r1 r2
  | .ser r1 r2 => encRR 0x3B r1 r2
  | .mer r1 r2 => encRR 0x3C r1 r2
  | .der r1 r2 => encRR 0x3D r1 r2
  | .aur r1 r2 => encRR 0x3E r1 r2
  | .sur r1 r2 => encRR 0x3F r1 r2
  | .sth r1 x2 b2 d2 => encRX 0x40 r1 x2 b2 d2
  | .la r1 x2 b2 d2 => encRX 0x41 r1 x2 b2 d2
  | .stc r1 x2 b2 d2 => encRX 0x42 r1 x2 b2 d2
  | .ic r1 x2 b2 d2 => encRX 0x43 r1 x2 b2 d2
  | .ex r1 x2 b2 d2 => encRX 0x44 r1 x2 b2 d2
  | .bal r1 x2 b2 d2 => encRX 0x45 r1 x2 b2 d2
  | .bct r1 x2 b2 d2 => encRX 0x46 r1 x2 b2 d2
  | .bc m1 x2 b2 d2 => encRX 0x47 m1 x2 b2 d2
  | .lh r1 x2 b2 d2 => encRX 0x48 r1 x2 b2 d2
  | .ch r1 x2 b2 d2 => encRX 0x49 r1 x2 b2 d2
  | .ah r1 x2 b2 d2 => encRX 0x4A r1 x2 b2 d2
  | .sh r1 x2 b2 d2 => encRX 0x4B r1 x2 b2 d2
  | .mh r1 x2 b2 d2 => encRX 0x4C r1 x2 b2 d2
  | .cvd r1 x2 b2 d2 => encRX 0x4E r1 x2 b2 d2
  | .cvb r1 x2 b2 d2 => encRX 0x4F r1 x2 b2 d2
  | .st r1 x2 b2 d2 => encRX 0x50 r1 x2 b2 d2
  | .n r1 x2 b2 d2 => encRX 0x54 r1 x2 b2 d2
  | .cl r1 x2 b2 d2 => encRX 0x55 r1 x2 b2 d2
  | .o r1 x2 b2 d2 => encRX 0x56 r1 x2 b2 d2
  | .x r1 x2 b2 d2 => encRX 0x57 r1 x2 b2 d2
  | .l r1 x2 b2 d2 => encRX 0x58 r1 x2 b2 d2
  | .c r1 x2 b2 d2 => encRX 0x59 r1 x2 b2 d2
  | .a r1 x2 b2 d2 => encRX 0x5A r1 x2 b2 d2
  | .s r1 x2 b2 d2 => encRX 0x5B r1 x2 b2 d2
  | .m r1 x2 b2 d2 => encRX 0x5C r1 x2 b2 d2
  | .d r1 x2 b2 d2 => encRX 0x5D r1 x2 b2 d2
  | .al r1 x2 b2 d2 => encRX 0x5E r1 x2 b2 d2
  | .sl r1 x2 b2 d2 => encRX 0x5F r1 x2 b2 d2
  | .std r1 x2 b2 d2 => encRX 0x60 r1 x2 b2 d2
  | .ld r1 x2 b2 d2 => encRX 0x68 r1 x2 b2 d2
  | .cd r1 x2 b2 d2 => encRX 0x69 r1 x2 b2 d2
  | .ad r1 x2 b2 d2 => encRX 0x6A r1 x2 b2 d2
  | .sd r1 x2 b2 d2 => encRX 0x6B r1 x2 b2 d2
  | .md r1 x2 b2 d2 => encRX 0x6C r1 x2 b2 d2
  | .dd r1 x2 b2 d2 => encRX 0x6D r1 x2 b2 d2
  | .aw r1 x2 b2 d2 => encRX 0x6E r1 x2 b2 d2
  | .sw r1 x2 b2 d2 => encRX 0x6F r1 x2 b2 d2
  | .ste r1 x2 b2 d2 => encRX 0x70 r1 x2 b2 d2
  | .le r1 x2 b2 d2 => encRX 0x78 r1 x2 b2 d2
  | .ce r1 x2 b2 d2 => encRX 0x79 r1 x2 b2 d2
  | .ae r1 x2 b2 d2 => encRX 0x7A r1 x2 b2 d2
  | .se r1 x2 b2 d2 => encRX 0x7B r1 x2 b2 d2
  | .me r1 x2 b2 d2 => encRX 0x7C r1 x2 b2 d2
  | .de r1 x2 b2 d2 => encRX 0x7D r1 x2 b2 d2
  | .au r1 x2 b2 d2 => encRX 0x7E r1 x2 b2 d2
  | .su r1 x2 b2 d2 => encRX 0x7F r1 x2 b2 d2
  | .idl i2 => encSI 0x80 i2 0 0
  | .pc i2 b1 d1 => encSI 0x82 i2 b1 d1
  | .dig i2 b1 d1 => encSI 0x83 i2 b1 d1
  | .wrd i2 b1 d1 => encSI 0x84 i2 b1 d1
  | .rdd i2 b1 d1 => encSI 0x85 i2 b1 d1
  | .bxh r1 r3 b2 d2 => encRX 0x86 r1 r3 b2 d2
  | .bxle r1 r3 b2 d2 => encRX 0x87 r1 r3 b2 d2
  | .srl r1 b2 d2 => encRX 0x88 r1 0 b2 d2
  | .sll r1 b2 d2 => encRX 0x89 r1 0 b2 d2
  | .sra r1 b2 d2 => encRX 0x8A r1 0 b2 d2
  | .sla r1 b2 d2 => encRX 0x8B r1 0 b2 d2
  | .srdl r1 b2 d2 => encRX 0x8C r1 0 b2 d2
  | .sldl r1 b2 d2 => encRX 0x8D r1 0 b2 d2
  | .srda r1 b2 d2 => encRX 0x8E r1 0 b2 d2
  | .slda r1 b2 d2 => encRX 0x8F r1 0 b2 d2
  | .stm r1 r3 b2 d2 => encRX 0x90 r1 r3 b2 d2
  | .tm i2 b1 d1 => encSI 0x91 i2 b1 d1
  | .mvi i2 b1 d1 => encSI 0x92 i2 b1 d1
  | .ts b1 d1 => encSI 0x93 0 b1 d1
  | .ni i2 b1 d1 => encSI 0x94 i2 b1 d1
  | .cli i2 b1 d1 => encSI 0x95 i2 b1 d1
  | .oi i2 b1 d1 => encSI 0x96 i2 b1 d1
  | .xi i2 b1 d1 => encSI 0x97 i2 b1 d1
  | .lm r1 r3 b2 d2 => encRX 0x98 r1 r3 b2 d2
  | .sdv b1 d1 => encSI 0x9C 0 b1 d1
  | .tdv b1 d1 => encSI 0x9D 0 b1 d1
  | .hdv b1 d1 => encSI 0x9E 0 b1 d1
  | .ckc b1 d1 => encSI 0x9F 0 b1 d1
  | .ssp l b1 d1 b2 d2 => encSS 0xD0 l b1 d1 b2 d2
  | .mvn l b1 d1 b2 d2 => encSS 0xD1 l b1 d1 b2 d2
  | .mvc l b1 d1 b2 d2 => encSS 0xD2 l b1 d1 b2 d2
  | .mvz l b1 d1 b2 d2 => encSS 0xD3 l b1 d1 b2 d2
  | .nc l b1 d1 b2 d2 => encSS 0xD4 l b1 d1 b2 d2
  | .clc l b1 d1 b2 d2 => encSS 0xD5 l b1 d1 b2 d2
  | .oc l b1 d1 b2 d2 => encSS 0xD6 l b1 d1 b2 d2
  | .xc l b1 d1 b2 d2 => encSS 0xD7 l b1 d1 b2 d2
  | .lsp l b1 d1 b2 d2 => encSS 0xD8 l b1 d1 b2 d2
  | .tr l b1 d1 b2 d2 => encSS 0xDC l b1 d1 b2 d2
  | .trt l b1 d1 b2 d2 => encSS 0xDD l b1 d1 b2 d2
  | .ed l b1 d1 b2 d2 => encSS 0xDE l b1 d1 b2 d2
  | .edmk l b1 d1 b2 d2 => encSS 0xDF l b1 d1 b2 d2
  | .mvo l1 l2 b1 d1 b2 d2 => encSS2 0xF1 l1 l2 b1 d1 b2 d2
  | .pack l1 l2 b1 d1 b2 d2 => encSS2 0xF2 l1 l2 b1 d1 b2 d2
  | .unpk l1 l2 b1 d1 b2 d2 => encSS2 0xF3 l1 l2 b1 d1 b2 d2
  | .zap l1 l2 b1 d1 b2 d2 => encSS2 0xF8 l1 l2 b1 d1 b2 d2
  | .cp l1 l2 b1 d1 b2 d2 => encSS2 0xF9 l1 l2 b1 d1 b2 d2
  | .ap l1 l2 b1 d1 b2 d2 => encSS2 0xFA l1 l2 b1 d1 b2 d2
  | .sp l1 l2 b1 d1 b2 d2 => encSS2 0xFB l1 l2 b1 d1 b2 d2
  | .mp l1 l2 b1 d1 b2 d2 => encSS2 0xFC l1 l2 b1 d1 b2 d2
  | .dp l1 l2 b1 d1 b2 d2 => encSS2 0xFD l1 l2 b1 d1 b2 d2

/-- The low `n` bytes of `w`, the most significant first. -/
def bytesOfNat : Nat → Nat → List Byte
  | 0, _ => []
  | n + 1, w => BitVec.ofNat 8 (w / 256 ^ n) :: bytesOfNat n w

/-- The bytes of an instruction given as the number `w` of `nbits` bits that spec/opcode_table.json's `match` and
`mask` strings write (leftmost byte first, R101), followed by zero bytes up to the longest instruction, 6 bytes. -/
def tableWordBytes (nbits w : Nat) : List Byte :=
  bytesOfNat (nbits / 8) w ++ List.replicate (6 - nbits / 8) 0

/-- The instruction the decoder reads from a table word (log 18). -/
def decodeTableWord (nbits w : Nat) : Option Instr :=
  match decode (tableWordBytes nbits w) with
  | .instr i => some i
  | _ => none

end Sys2Proof
end

