-- ==== Sys2Proof/Config.lean ====
section
/-! DEFINITION. What an implementation fixes (the OPEN parameters of 00_scope R6) and the source of free values. -/

namespace Sys2Proof

/-- The OPEN implementation parameters of R6 and U12, constant during a run (R39). They are held as plain data
in `State.cfg`, so that a statement about every state covers every value of them (assumption log 4).
`TrapEntry` has only the spec's value, "fault (end of run)", and is no field (R429, D2; log 6). -/
structure Config where
  /-- `MEM_SIZE`: installed main storage in bytes, a multiple of 2048, at most 2^24 (R6, D9). -/
  memSize : Nat
  /-- `privileged`: whether the executing state may run the `*` instructions (R35, R445, D4). -/
  privileged : Bool
  /-- `ascii_mode`: the decimal sign and zone code set (D16). -/
  asciiMode : Bool
  /-- `protection`: storage protection active (R57, D10). -/
  protection : Bool
  /-- `pkey`: the executing key, compared on a store when `protection` is on (R57). -/
  pkey : BitVec 4
  /-- `FP_LONG_GUARD`: long operations keep one guard digit (R182, D17). -/
  fpLongGuard : Bool
  /-- `HALVE_NORMALIZES`: HDR and HER post-normalize (R189, D17). -/
  halveNormalizes : Bool
  /-- `KEY_BITS`: the leftmost card bit, in a general register, of the 4-bit storage key (R134, R135, D24). -/
  keyBit : Nat
  deriving DecidableEq, Repr

/-- The defaults of R6, with `MEM_SIZE` = 0x10000, the value the vectors use (92_eei_decisions, header; log 4). -/
def Config.default : Config :=
  { memSize := 0x10000, privileged := false, asciiMode := false, protection := false, pkey := 0,
    fpLongGuard := true, halveNormalizes := false, keyBit := 24 }

/-- The bounds R6 and D24 set on the parameters: `MEM_SIZE` a multiple of 2048 and at most 2^24, the key field
inside the register. -/
def Config.valid (c : Config) : Bool :=
  c.memSize % 2048 == 0 && decide (c.memSize ≤ 2 ^ 24) && decide (c.keyBit ≤ 28)

/-- The source of every free value ("any value", D27): no body, so nothing can be proved of what it yields.
The step applies it to the counter `State.draws`, which it then advances (log 7). -/
opaque Config.freeBits : Nat → BitVec 64

end Sys2Proof
end

