-- ==== Sys2Proof/Machine/State.lean ====
section
/-! DEFINITION. The machine's state as plain data (10_state R39), the interrupt conditions (60_exceptions R421), the
reasons a step stops, and the state after reset. -/

namespace Sys2Proof.Machine

/-- The 32 interrupt conditions, in the order of their priority numbers 1 to 32 (R421). -/
inductive Condition where
  /-- 1, "Power Failure" -/
  | powerFailure
  /-- 2, "Machine Check" -/
  | machineCheck
  /-- 3, "External Signal No. 1" -/
  | externalSignal1
  /-- 4, "External Signal No. 2" -/
  | externalSignal2
  /-- 5, "External Signal No. 3" -/
  | externalSignal3
  /-- 6, "External Signal No. 4" -/
  | externalSignal4
  /-- 7, "External Signal No. 5" -/
  | externalSignal5
  /-- 8, "External Signal No. 6" -/
  | externalSignal6
  /-- 9, "Interval Timer" -/
  | intervalTimer
  /-- 10, "Selector Channel No. 1" -/
  | selectorChannel1
  /-- 11, "Selector Channel No. 2" -/
  | selectorChannel2
  /-- 12, "Selector Channel No. 3" -/
  | selectorChannel3
  /-- 13, "Selector Channel No. 4" -/
  | selectorChannel4
  /-- 14, "Selector Channel No. 5" -/
  | selectorChannel5
  /-- 15, "Selector Channel No. 6" -/
  | selectorChannel6
  /-- 16, "Multiplexor Channel" -/
  | multiplexorChannel
  /-- 17, "Elapsed Time Clock" -/
  | elapsedTimeClock
  /-- 18, "Console Interrupt Request" -/
  | consoleInterruptRequest
  /-- 19, "Paging Error" -/
  | pagingError
  /-- 20, "Paging Queue" -/
  | pagingQueue
  /-- 21, "Supervisor Call Instruction" -/
  | supervisorCall
  /-- 22, "Privileged Operation" -/
  | privilegedOperation
  /-- 23, "Op-Code Trap" -/
  | opCodeTrap
  /-- 24, "Address Error (Protect, Addressing, Specification)" -/
  | addressError
  /-- 25, "Data Error" -/
  | dataError
  /-- 26, "Exponent Overflow" -/
  | exponentOverflow
  /-- 27, "Divide Error" -/
  | divideError
  /-- 28, "Significant Error" -/
  | significantError
  /-- 29, "Exponent Underflow" -/
  | exponentUnderflow
  /-- 30, "Decimal Overflow" -/
  | decimalOverflow
  /-- 31, "Fixed Point Overflow" -/
  | fixedPointOverflow
  /-- 32, "Test Mode" -/
  | testMode
  deriving DecidableEq, Repr

/-- The three causes of Address Error (R435). -/
inductive AddressCause where
  | protect
  | addressing
  | specification
  deriving DecidableEq, Repr

/-- What an instruction rule passes with a condition (R425): nothing; the I field, for SupervisorCall; the cause, for
AddressError. -/
inductive Info where
  | none
  | svc (i : Byte)
  | address (cause : AddressCause)
  deriving DecidableEq, Repr

/-- The outcome mark of R39. A refused run has no mark here: a refusal changes nothing (R10) and is the step's own
answer `.refused` (log 6). -/
inductive RunMark where
  /-- the run goes on -/
  | running
  /-- the run has ended: the condition was taken with this info, `Fault(C, info)` (R429, R464 (1)) -/
  | ended (c : Condition) (info : Info)
  deriving DecidableEq, Repr

/-- Why a step faults. -/
inductive Fault where
  /-- Raised by `step`, and by nothing else, in a state whose run has ended because the interrupt condition `c` was
  taken with this info: the spec does not continue execution after that (R429, D2, D28). Safe: nothing is claimed of
  what the machine does after an interrupt. -/
  | interruptTaken (c : Condition) (info : Info)
  deriving DecidableEq, Repr

/-- Why a step refuses (R10 `refuse`). -/
inductive Refusal where
  /-- Raised by an arm of `exec` that has no meaning yet (none is left). Safe. -/
  | notModelled (mnemonic : String)
  /-- Raised by IDL, PC, DIG, WRD, RDD, SDV, TDV, HDV, CKC, SSP and LSP when `privileged` is true: the spec gives them
  no semantics and refuses them (00_scope R4 (1), R431, D18). Safe. -/
  | noSemanticsInSource (mnemonic : String)
  /-- Raised by EX whose subject is EX (42 R234, D30). Safe. -/
  | exOfEx
  /-- Raised by a fetch or an instruction that reads a byte of storage to which neither the launch nor the program has
  given a value: the "fault of the model" of R40, R68, R461, D6 and U10, which R464 (2) counts among the refusals
  (log 3). Safe. -/
  | noValue
  deriving DecidableEq, Repr

/-- What stops a fetch or an instruction before its result: an interrupt condition with its info, or a byte of storage
that has no value. -/
inductive Stop where
  | raised (c : Condition) (info : Info)
  | noValue
  deriving DecidableEq, Repr

/-- AddressError with its cause (R435). -/
abbrev Stop.address (cause : AddressCause) : Stop := .raised .addressError (.address cause)

/-- DataError (R436). -/
abbrev Stop.data : Stop := .raised .dataError .none

/-- Main storage as (address, byte) pairs in one canonical form, addresses strictly rising. An unlisted address has no
value (20_memory R50, R68, 10_state R40; log 3), so that every byte may be listed. -/
abbrev Memory := List Host.Cell

/-- Storage keys as (block number, key) pairs, block numbers strictly rising and no key 0 listed: an unlisted block's
key is 0 (R33; log 3). -/
abbrev Keys := List (Nat × BitVec 4)

/-- The state of the machine (R39). -/
structure State where
  /-- `x[0..15]`, the general registers (R20). -/
  x : Vector Word 16
  /-- `f[0]`, `f[2]`, `f[4]`, `f[6]`, the floating-point registers (R23), register number 2i at index i. -/
  f : Vector DWord 4
  /-- `pc`, the instruction address (R26). -/
  pc : Addr
  /-- `cc`, the condition code (R28). -/
  cc : CC
  /-- `pm`, the program mask (R30); the spec's `pm{k}` is bit `3 - k`. -/
  pm : BitVec 4
  /-- `ilc`, the length in half words of the instruction being executed (R27); `next` is computed from it (R11; log 13). -/
  ilc : BitVec 2
  /-- `mem`, main storage (R37, R50). -/
  mem : Memory
  /-- `key[b]`, the storage keys (R33). -/
  keys : Keys
  /-- `ifr`, the interrupt flag register (R31). -/
  ifr : BitVec 32
  /-- The outcome mark (R39). -/
  run : RunMark
  /-- The parameters of R6, which no instruction changes (R39, R445; log 4). -/
  cfg : Config
  /-- The MODEL's own counter of free values drawn (log 7); the spec has no such register. -/
  draws : Nat
  deriving DecidableEq, Repr

/-- The machine at the start of a run with nothing loaded (R40, R461). `ifr` is all zero and the run is running, as
R40 and R461 say, and no byte of storage has a value (R40; log 3); the parameters have their defaults (R6; log 4);
every other value is a DESIGN CHOICE, since the spec gives none: registers zero (log 1), `pc`, `cc`, `pm`, `ilc` zero
(log 2), keys zero (log 3). -/
def State.reset : State :=
  { x := Vector.replicate 16 0, f := Vector.replicate 4 0, pc := 0, cc := 0, pm := 0, ilc := 0, mem := [], keys := [],
    ifr := 0, run := .running, cfg := Config.default, draws := 0 }

/-- What a step or a meaning answers. -/
abbrev Result := Host.Outcome State Fault Refusal

end Sys2Proof.Machine
end

