-- ==== Sys2Proof/Machine/Ops.lean ====
section
/-! DEFINITION. The named operations over storage, registers and interrupt conditions. Every read and write of a
register or a byte goes through one of these. -/

namespace Sys2Proof.Machine

/-! ## Sparse tables in canonical form -/

/-- What key `a` is listed with. -/
def sparseFind {w : Nat} : List (Nat × BitVec w) → Nat → Option (BitVec w)
  | [], _ => none
  | (k, v) :: t, a => if k = a then some v else sparseFind t a

/-- The table without key `a`. -/
def sparseErase {w : Nat} (t : List (Nat × BitVec w)) (a : Nat) : List (Nat × BitVec w) :=
  t.filter fun c => c.1 != a

/-- The table with the pair put before the first greater key. -/
def sparseInsert {w : Nat} : List (Nat × BitVec w) → Nat → BitVec w → List (Nat × BitVec w)
  | [], a, v => [(a, v)]
  | (k, u) :: t, a, v => if a < k then (a, v) :: (k, u) :: t else (k, u) :: sparseInsert t a v

/-- Writing `v` at key `a`. -/
def sparsePut {w : Nat} (t : List (Nat × BitVec w)) (a : Nat) (v : BitVec w) : List (Nat × BitVec w) :=
  sparseInsert (sparseErase t a) a v

/-- Keys strictly rising. -/
def sparseRising {w : Nat} (t : List (Nat × BitVec w)) : Bool := decide (t.Pairwise fun c d => c.1 < d.1)

/-- Every key is below `n`. -/
def sparseBelow {w : Nat} (t : List (Nat × BitVec w)) (n : Nat) : Bool := t.all fun c => decide (c.1 < n)

/-! ## Main storage (20_memory) -/

/-- The byte at an address; none where nothing has given it a value (R68, R40; log 3). -/
def Memory.read (m : Memory) (a : Addr) : Option Byte := sparseFind m a.toNat

/-- Storage with one byte replaced. -/
def Memory.write (m : Memory) (a : Addr) (b : Byte) : Memory := sparsePut m a.toNat b

/-- Storage is in canonical form: an unlisted address reads as none, which no listed byte is. -/
def Memory.wf (m : Memory) : Bool := sparseRising m

/-- The address `i` bytes after `a`, modulo 2^24 (R55, D21). -/
def addrPlus (a : Addr) (i : Nat) : Addr := a + BitVec.ofNat 24 i

/-- The `n` bytes from address `a` on, lowest address first; none if one of them has no value (R68). -/
def Memory.bytes (m : Memory) : Addr → Nat → Option (List Byte)
  | _, 0 => some []
  | a, n + 1 =>
    match m.read a, m.bytes (a + 1) n with
    | some b, some bs => some (b :: bs)
    | _, _ => none

/-- A byte string as an unsigned number, the first byte leftmost (R51). -/
def natOfBytes (bs : List Byte) : Nat := bs.foldl (fun v b => 256 * v + b.toNat) 0

/-- The value of `MemRead(a, n)`, if every byte has one (R68). -/
def Memory.value (m : Memory) (a : Addr) (n : Nat) : Option Nat := (m.bytes a n).map natOfBytes

/-- A byte string put at consecutive addresses. -/
def Memory.storeBytes : Memory → Addr → List Byte → Memory
  | m, _, [] => m
  | m, a, b :: bs => (m.write a b).storeBytes (a + 1) bs

/-- The effect of `MemWrite(a, n, v)`, the byte at `a` leftmost (R68). -/
def Memory.storeValue (m : Memory) (a : Addr) (n v : Nat) : Memory := m.storeBytes a (bytesOfNat n v)

/-- The byte of main storage at an address, if it has a value. -/
def State.byteAt (s : State) (a : Addr) : Option Byte := s.mem.read a

/-- All `n` bytes from `a` on are at addresses below `MEM_SIZE` (R56, R68). -/
def State.inStorage (s : State) (a : Addr) (n : Nat) : Bool :=
  (List.range n).all fun i => decide ((addrPlus a i).toNat < s.cfg.memSize)

/-- The block of 2048 bytes that holds an address, `a{8-20}` (R33). -/
def blockOf (a : Addr) : Nat := a.toNat / 2048

/-- The storage keys are in canonical form: no key listed that an unlisted block has (log 3). -/
def Keys.wf (k : Keys) : Bool := sparseRising k && k.all fun c => c.2 != 0

/-- Storage keys with one key replaced: a key 0 is not listed. -/
def Keys.write (k : Keys) (block : Nat) (v : BitVec 4) : Keys :=
  if v = 0 then sparseErase k block else sparsePut k block v

/-- The storage key of a block (R33); 0 where none has been set (log 3). -/
def State.keyAt (s : State) (block : Nat) : BitVec 4 := (sparseFind s.keys block).getD 0

/-- A store to this address is allowed: protection off, running key 0, or the keys equal (R57). -/
def State.storeAllowedAt (s : State) (a : Addr) : Bool :=
  !s.cfg.protection || s.cfg.pkey == 0 || s.cfg.pkey == s.keyAt (blockOf a)

/-- A store to each of the `n` bytes from `a` on is allowed (R57, R68). -/
def State.storeAllowed (s : State) (a : Addr) (n : Nat) : Bool :=
  (List.range n).all fun i => s.storeAllowedAt (addrPlus a i)

/-- Storage replaced. -/
def State.setMem (s : State) (m : Memory) : State := { s with mem := m }

/-- The key of a block replaced (R134). -/
def State.setKey (s : State) (block : Nat) (k : BitVec 4) : State := { s with keys := s.keys.write block k }

/-! ## Registers -/

/-- `x[r]` (R20). -/
def State.gpr (s : State) (r : RegNum) : Word := s.x[r.toNat]'(r.isLt)

/-- `x[r] <- v`. -/
def State.setGpr (s : State) (r : RegNum) (v : Word) : State := { s with x := s.x.set r.toNat v r.isLt }

/-- The 64-bit pair `x[r] || x[r+1]` of an even register (R21). -/
def State.pair (s : State) (r : RegNum) : DWord := s.gpr r ++ s.gpr (r + 1)

/-- The pair replaced, its left half in `x[r]` (R21). -/
def State.setPair (s : State) (r : RegNum) (v : DWord) : State :=
  (s.setGpr r (v.extractLsb' 32 32)).setGpr (r + 1) (v.extractLsb' 0 32)

/-- The index of floating-point register number 0, 2, 4 or 6 (R23). -/
def fprIndex (r : RegNum) : Fin 4 := ⟨r.toNat / 2 % 4, Nat.mod_lt _ (by decide)⟩

/-- `f[r]` (R23). -/
def State.fpr (s : State) (r : RegNum) : DWord := s.f[(fprIndex r).val]'((fprIndex r).isLt)

/-- `f[r] <- v`. -/
def State.setFpr (s : State) (r : RegNum) (v : DWord) : State :=
  { s with f := s.f.set (fprIndex r).val v (fprIndex r).isLt }

/-- `fs[r]`, bits 0-31 of `f[r]` (R9). -/
def State.fprShort (s : State) (r : RegNum) : Word := (s.fpr r).extractLsb' 32 32

/-- `fs[r] <- v`, bits 32-63 of `f[r]` unchanged (R9). -/
def State.setFprShort (s : State) (r : RegNum) (v : Word) : State := s.setFpr r (v ++ (s.fpr r).extractLsb' 0 32)

/-- `cc <- c`. -/
def State.setCC (s : State) (c : CC) : State := { s with cc := c }

/-- `pm <- m`. -/
def State.setPm (s : State) (m : BitVec 4) : State := { s with pm := m }

/-- `pm{k}`, bit `k` from the left (R30). -/
def State.pmBit (s : State) (k : Nat) : Bool := s.pm.getLsbD (3 - k)

/-- `next`, the address of the next instruction in sequence: `pc + 2 * ilc` (R11 step (2); under EX both are those of
the EX, R234; log 13). -/
def State.next (s : State) : Addr := s.pc + BitVec.ofNat 24 (2 * s.ilc.toNat)

/-- `pc <- next` (R11 step (4)). -/
def State.advance (s : State) : State := { s with pc := s.next }

/-- `pc <- t` (R128): the target is not checked here. -/
def State.branchTo (s : State) (t : Addr) : State := { s with pc := t }

/-- R11 step (2): `ilc` becomes the length in half words of the instruction fetched, `n` bytes long. -/
def State.beginInstr (s : State) (n : Nat) : State := { s with ilc := BitVec.ofNat 2 (n / 2) }

/-! ## Free values (D27; log 7) -/

/-- A free value of `w` bits, and the state with the counter advanced. -/
def State.draw (s : State) (w : Nat) : BitVec w × State :=
  ((Config.freeBits s.draws).setWidth w, { s with draws := s.draws + 1 })

/-- `x[r]` holds any value. -/
def State.freeGpr (s : State) (r : RegNum) : State := (s.draw 32).2.setGpr r (s.draw 32).1

/-- The rightmost `n` bits of `x[r]` hold any value, the others are unchanged. -/
def State.freeGprLow (s : State) (r : RegNum) (n : Nat) : State :=
  (s.draw 32).2.setGpr r
    (BitVec.ofNat 32 ((s.gpr r).toNat / 2 ^ n * 2 ^ n + (s.draw 32).1.toNat % 2 ^ n))

/-- `k` general registers from `r` on, wrapping from 15 to 0, hold any value. -/
def State.freeGprs : State → RegNum → Nat → State
  | s, _, 0 => s
  | s, r, k + 1 => (s.freeGpr r).freeGprs (r + 1) k

/-- `f[r]` holds any value. -/
def State.freeFpr (s : State) (r : RegNum) : State := (s.draw 64).2.setFpr r (s.draw 64).1

/-- `fs[r]` holds any value, bits 32-63 of `f[r]` unchanged. -/
def State.freeFprShort (s : State) (r : RegNum) : State := (s.draw 32).2.setFprShort r (s.draw 32).1

/-- `cc` holds any value. -/
def State.freeCC (s : State) : State := (s.draw 2).2.setCC (s.draw 2).1

/-- `cc` holds any of 0, 1, 2 (R184, U14). -/
def State.freeCCBelow3 (s : State) : State := (s.draw 64).2.setCC (BitVec.ofNat 2 ((s.draw 64).1.toNat % 3))

/-- Those of the `n` bytes from `a` on that lie in storage hold any value (R325, R375). -/
def State.freeBytes : State → Addr → Nat → State
  | s, _, 0 => s
  | s, a, n + 1 =>
    (if a.toNat < s.cfg.memSize then (s.draw 8).2.setMem (s.mem.write a (s.draw 8).1) else s).freeBytes (a + 1) n

/-! ## Interrupt conditions (60_exceptions) -/

/-- The conditions by priority number: position p - 1 holds the condition of priority p (R421). -/
def Condition.all : List Condition :=
  [.powerFailure, .machineCheck, .externalSignal1, .externalSignal2, .externalSignal3, .externalSignal4,
   .externalSignal5, .externalSignal6, .intervalTimer, .selectorChannel1, .selectorChannel2, .selectorChannel3,
   .selectorChannel4, .selectorChannel5, .selectorChannel6, .multiplexorChannel, .elapsedTimeClock,
   .consoleInterruptRequest, .pagingError, .pagingQueue, .supervisorCall, .privilegedOperation, .opCodeTrap,
   .addressError, .dataError, .exponentOverflow, .divideError, .significantError, .exponentUnderflow,
   .decimalOverflow, .fixedPointOverflow, .testMode]

/-- The priority number, 1 to 32 (R421). -/
def Condition.priority (c : Condition) : Nat := Condition.all.idxOf c + 1

/-- The weight, 4 * (priority - 1) (R422). -/
def Condition.weight (c : Condition) : Nat := 4 * (c.priority - 1)

/-- The number of the processor state the condition initiates: P4 for Power Failure and Machine Check, P3 for the
others (R424). The model has no current state to change (R32, D5): this is the table's column, read by nothing else. -/
def Condition.stateInitiated (c : Condition) : Nat := if c.priority ≤ 2 then 4 else 3

/-- The condition's bit of the interrupt flag register, 2^(priority - 1) (R423). -/
def Condition.flag (c : Condition) : BitVec 32 := BitVec.ofNat 32 (2 ^ (c.priority - 1))

/-- The condition's flag bit is 1. -/
def State.flagged (s : State) (c : Condition) : Bool := s.ifr.getLsbD (c.priority - 1)

/-- The pending condition of the lowest priority number (R426, R427). -/
def State.firstPending (s : State) : Option Condition := Condition.all.find? s.flagged

/-- Taking an interrupt (R426, R429): if a flag bit is 1, the pending condition of lowest priority number is taken and
the run ends with it. `raised` is the pair R425 remembers; a condition that was pending without it has no info.
Nothing is saved and control goes nowhere: the spec gives no save area, status word or handler address (R429, D2; log 6). -/
def State.takeInterrupt (s : State) (raised : Option (Condition × Info)) : State :=
  match s.firstPending with
  | none => s
  | some c =>
    { s with run := .ended c (match raised with
        | some (r, info) => if r = c then info else .none
        | none => .none) }

/-- TAKING AN EXCEPTION, the one shared operation: the flag bit is set (R425 (1)) and the interrupt is taken (R426,
R429). It is the last thing an instruction does, after its ending has written its results and `pc` (R12). There is no
return from one: the spec names none (R430), and PC, which the family uses for it, has no semantics in the spec. -/
def State.raise (s : State) (c : Condition) (info : Info) : State :=
  { s with ifr := s.ifr ||| c.flag }.takeInterrupt (some (c, info))

/-- R11 step (5) for an instruction that raised nothing itself: a condition already pending is taken (R426). -/
def State.settle (s : State) : State :=
  match s.run with
  | .running => s.takeInterrupt none
  | .ended _ _ => s

/-- R11 step (5) after a meaning: a next state is settled, a fault or a refusal stands. -/
def settleResult : Result → Result
  | .next s => .next s.settle
  | .fault r => .fault r
  | .refused r => .refused r

/-! ## How an instruction ends (00_scope R12) -/

/-- Completed without a condition: the results are in `s`, `pc` advances. -/
def State.complete (s : State) : Result := .next s.advance

/-- Completed, and then the condition, if any, is recorded. -/
def State.completeWith (s : State) : Option Condition → Result
  | none => s.complete
  | some c => .next (s.advance.raise c .none)

/-- Suppressed: nothing changes but `pc`, which advances, and the condition is recorded. -/
def State.suppress (s : State) (c : Condition) (info : Info) : Result := .next (s.advance.raise c info)

/-- Suppressed with AddressError and its cause (R435). -/
def State.addressFault (s : State) (cause : AddressCause) : Result := s.suppress .addressError (.address cause)

/-- A stop that suppresses the instruction, or refuses it where a byte has no value (R12, R464 (2)). -/
def State.suppressBy (s : State) : Stop → Result
  | .raised c info => s.suppress c info
  | .noValue => .refused .noValue

/-- Terminated: `freed` is the state with its result fields holding any value; `pc` advances and the condition is
recorded. -/
def terminate (freed : State) (c : Condition) (info : Info) : Result := .next (freed.advance.raise c info)

/-- A stop that terminates the instruction, or refuses it where a byte has no value (R12, R464 (2)). -/
def terminateBy (freed : State) : Stop → Result
  | .raised c info => terminate freed c info
  | .noValue => .refused .noValue

/-- The privileged check of R11 step (3) and R431: without `privileged` the instruction is suppressed with
PrivilegedOperation, before any operand is looked at. -/
def State.privileged (s : State) (k : Result) : Result :=
  if s.cfg.privileged then k else s.suppress .privilegedOperation .none

/-- An operation code to which no instruction is assigned: suppressed with OpCodeTrap (R93, R434). -/
def State.opCodeTrap (s : State) : Result := s.suppress .opCodeTrap .none

/-! ## Instruction fetch (30_encoding R95 steps (1) to (3)) -/

/-- The bytes of the instruction at `a`, its length by the first byte, or what stops the fetch: an odd address, a byte
outside storage, a byte that has no value (R68). -/
def State.fetchBytes (s : State) (a : Addr) : Except Stop (List Byte) :=
  if a.toNat % 2 ≠ 0 then .error (.address .specification)
  else if s.inStorage a 1 = false then .error (.address .addressing)
  else match s.byteAt a with
    | none => .error .noValue
    | some op =>
      if s.inStorage a (instrLength op) = false then .error (.address .addressing)
      else match s.mem.bytes a (instrLength op) with
        | none => .error .noValue
        | some bs => .ok bs

/-- A stop met while fetching: a condition changes nothing but the flag, `pc` keeps its value, and the run ends (R95,
R429); a byte that has no value refuses. -/
def State.fetchStopped (s : State) : Stop → Result
  | .raised c info => .next (s.raise c info)
  | .noValue => .refused .noValue

end Sys2Proof.Machine
end

