-- ==== Sys2Proof/Machine/Operands.lean ====
section
/-! DEFINITION. Operand forms: effective addresses (30_encoding R88, R89), the register checks (40 R127, 41 R181) and
the fetch and store of one storage operand with their checks in the order of 60_exceptions R428. -/

namespace Sys2Proof.Machine

/-! ## Addresses -/

/-- `xr(n)`: the component a base or index field gives, 0 for field value 0 (R88, R89). -/
def State.addrReg (s : State) (r : RegNum) : Addr := if r = 0 then 0 else (s.gpr r).setWidth 24

/-- `EA(D, X, B)`, modulo 2^24 (R88). -/
def State.ea (s : State) (d : Disp) (x b : RegNum) : Addr := d.setWidth 24 + s.addrReg x + s.addrReg b

/-- `EA(D, 0, B)`, the address of an RS, SI or SS operand (R88). -/
def State.eab (s : State) (d : Disp) (b : RegNum) : Addr := d.setWidth 24 + s.addrReg b

/-- `RegTarget(R2) = x[R2]{8-31}` (R128). -/
def State.regTarget (s : State) (r : RegNum) : Addr := (s.gpr r).setWidth 24

/-- `n = a mod 64`, the shift amount (44 R340). -/
def State.shiftAmount (s : State) (d : Disp) (b : RegNum) : Nat := (s.eab d b).toNat % 64

/-! ## Register-number checks -/

/-- `EvenReg(r)` (R127): go on if the register number is even, else AddressError(specification), suppressed. -/
def State.withEven (s : State) (r : RegNum) (k : Result) : Result :=
  if r.toNat % 2 = 0 then k else s.addressFault .specification

/-- `FReg(r)` (R181): go on if the number is 0, 2, 4 or 6, else AddressError(specification), suppressed. -/
def State.withFreg (s : State) (r : RegNum) (k : Result) : Result :=
  if r.toNat % 2 = 0 ∧ r.toNat < 8 then k else s.addressFault .specification

/-- Both register fields checked before anything else (R181). -/
def State.withFregs (s : State) (r1 r2 : RegNum) (k : Result) : Result := s.withFreg r1 (s.withFreg r2 k)

/-! ## One storage operand -/

/-- `Align(a, n)`, then the addressing check of `MemRead(a, n)`: the cause of the AddressError, if any (R53, R68,
R428). -/
def State.readFault (s : State) (a : Addr) (n : Nat) : Option AddressCause :=
  if a.toNat % n ≠ 0 then some .specification
  else if s.inStorage a n = false then some .addressing
  else none

/-- `Align(a, n)`, then the checks of `MemWrite(a, n)`: addressing, then protection (R53, R57, R68, R428). -/
def State.writeFault (s : State) (a : Addr) (n : Nat) : Option AddressCause :=
  match s.readFault a n with
  | some c => some c
  | none => if s.storeAllowed a n then none else some .protect

/-- The value of `n` bytes goes to `k`; a byte that has no value refuses (R68). -/
def State.withValue (s : State) (a : Addr) (n : Nat) (k : Nat → Result) : Result :=
  match s.mem.value a n with
  | none => .refused .noValue
  | some v => k v

/-- `Align(a, n)` and `MemRead(a, n)`: the value fetched goes to `k`; a fault suppresses the instruction. -/
def State.withRead (s : State) (a : Addr) (n : Nat) (k : Nat → Result) : Result :=
  match s.readFault a n with
  | some c => s.addressFault c
  | none => s.withValue a n k

/-- `Align(a, n)` and `MemWrite(a, n, v)`: the state with the bytes stored goes to `k`; a fault suppresses the
instruction. -/
def State.withWrite (s : State) (a : Addr) (n v : Nat) (k : State → Result) : Result :=
  match s.writeFault a n with
  | some c => s.addressFault c
  | none => k (s.setMem (s.mem.storeValue a n v))

/-- One byte fetched and replaced by `f` of it: the byte fetched and the state with the byte stored go to `k`. The
conditions of its address come before its value (R428; log 11). -/
def State.withUpdate (s : State) (a : Addr) (f : Byte → Byte) (k : Byte → State → Result) : Result :=
  match s.writeFault a 1, s.byteAt a with
  | some c, _ => s.addressFault c
  | none, none => .refused .noValue
  | none, some v => k v (s.setMem (s.mem.write a (f v)))

/-! ## Operands of the SS instructions, LM and STM -/

/-- The checks of two storage operands of which the first is stored into when `stores`: all bytes of both below
`MEM_SIZE`, then protection of the first (R68, R375, R393, R428; log 11). `n2 = 0` is no second operand. -/
def State.fieldFault (s : State) (a1 : Addr) (n1 : Nat) (a2 : Addr) (n2 : Nat) (stores : Bool) :
    Option AddressCause :=
  if s.inStorage a1 n1 = false ∨ s.inStorage a2 n2 = false then some .addressing
  else if stores = true ∧ s.storeAllowed a1 n1 = false then some .protect
  else none

/-- Terminated by an access fault of an SS instruction, LM or STM: `freed` has its result fields holding any value
(R375, D25). -/
def accessTerminated (freed : State) (c : AddressCause) : Result := terminateBy freed (.address c)

/-- Protection comes after the addressing of every operand byte and before what the operands hold: of a stop other than
AddressError, met while the operands are walked, a protected byte of the first operand makes AddressError(protect)
(R428 (7), (8); log 11). -/
def Stop.afterProtection (isProtected : Bool) : Stop → Stop
  | .raised .addressError info => .raised .addressError info
  | stop => if isProtected then .address .protect else stop

/-- Storage after the operands were walked goes to `k`; a stop terminates or refuses. -/
def State.withStorage (freed : State) (r : Except Stop Memory) (k : Memory → Result) : Result :=
  match r with
  | .error stop => terminateBy freed stop
  | .ok m => k m

/-- The answer of a walk that ends where a byte has no value. -/
def givenOr {α : Type} : Option α → Except Stop α
  | none => .error .noValue
  | some v => .ok v

end Sys2Proof.Machine
end

