-- ==== Sys2Proof/Machine/Flags.lean ====
section
/-! DEFINITION. The integer laws and every rule that computes a condition code from integers (40_rr_general R120 to
R129, 44_rs_si R319 to R324, R326), and how an instruction ends with such a result. -/

namespace Sys2Proof.Machine

/-- The code of an exact integer: 0 zero, 1 negative, 2 positive (R121). -/
def ccOfInt (t : Int) : CC := if t = 0 then 0 else if t < 0 then 1 else 2

/-- `CCsign(r)` (R121). -/
def ccSign {w : Nat} (r : BitVec w) : CC := ccOfInt r.toInt

/-- 0 if the result is zero, else 1 (10_state R29, row 7). -/
def ccLogic {w : Nat} (r : BitVec w) : CC := if r = 0 then 0 else 1

/-- A result with its condition code and whether it overflowed. -/
structure Arith (w : Nat) where
  value : BitVec w
  cc : CC
  overflow : Bool
  deriving DecidableEq, Repr

/-- The exact integer is representable in `w` signed bits. -/
def fitsSigned (w : Nat) (t : Int) : Bool := decide (-(2 ^ (w - 1) : Int) ≤ t) && decide (t < (2 ^ (w - 1) : Int))

/-- An exact signed result narrowed to `w` bits: code 3 on overflow, else the sign of the result (R122). -/
def signedResult (w : Nat) (t : Int) : Arith w :=
  { value := BitVec.ofInt w t
    cc := if fitsSigned w t then ccSign (BitVec.ofInt w t) else 3
    overflow := !fitsSigned w t }

/-- `AddSigned(a, b)` (R122). -/
def addSigned (a b : Word) : Arith 32 := signedResult 32 (a.toInt + b.toInt)

/-- `SubSigned(a, b)` (R122). -/
def subSigned (a b : Word) : Arith 32 := signedResult 32 (a.toInt - b.toInt)

/-- Load Positive (R137): only the maximum negative number overflows. -/
def loadPositive (a : Word) : Arith 32 := signedResult 32 (a.toInt.natAbs : Int)

/-- Load Negative (R138): no overflow is possible. -/
def loadNegative (a : Word) : Arith 32 := signedResult 32 (-(a.toInt.natAbs : Int))

/-- Load Complement (R140): only the maximum negative number overflows. -/
def loadComplement (a : Word) : Arith 32 := signedResult 32 (-a.toInt)

/-- The code of a logical sum: carry is worth 2, not zero is worth 1 (R123). -/
def ccLogicalSum (t : Nat) : CC :=
  BitVec.ofNat 2 ((if 2 ^ 32 ≤ t then 2 else 0) + (if t % 2 ^ 32 = 0 then 0 else 1))

/-- `AddLogical(a, b)` (R123). -/
def addLogical (a b : Word) : Arith 32 :=
  { value := BitVec.ofNat 32 (a.toNat + b.toNat), cc := ccLogicalSum (a.toNat + b.toNat), overflow := false }

/-- `SubLogical(a, b)`: `a` plus the one's complement of `b` plus one (R123). -/
def subLogical (a b : Word) : Arith 32 :=
  { value := BitVec.ofNat 32 (a.toNat + (2 ^ 32 - 1 - b.toNat) + 1)
    cc := ccLogicalSum (a.toNat + (2 ^ 32 - 1 - b.toNat) + 1), overflow := false }

/-- 0 equal, 1 low, 2 high: the comparison of exact integers (R124). -/
def compareInt (a b : Int) : CC := if a = b then 0 else if a < b then 1 else 2

/-- `CompareSigned(a, b)` (R124). -/
def compareSigned (a b : Word) : CC := compareInt a.toInt b.toInt

/-- `CompareLogical(a, b)` of unsigned values of equal width (R124). -/
def compareLogical (a b : Nat) : CC := compareInt a b

/-- `MulSigned(a, b)`, 64 bits (R125). -/
def mulSigned (a b : Word) : DWord := BitVec.ofInt 64 (a.toInt * b.toInt)

/-- `DivSigned(n, d)` (R126): quotient toward zero and remainder, or none where the division is in error. A quotient
of exactly -2^31 is accepted (U3; log 19). -/
def divSigned (n : DWord) (d : Word) : Option (Word × Word) :=
  if d.toInt = 0 then none
  else if fitsSigned 32 (n.toInt.tdiv d.toInt) then
    some (BitVec.ofInt 32 (n.toInt.tdiv d.toInt), BitVec.ofInt 32 (n.toInt - n.toInt.tdiv d.toInt * d.toInt))
  else none

/-- Arithmetic shift left by `n`: the sign bit stays, the others move, overflow if the exact product does not fit
(R320, R324). -/
def shiftLeftArith {w : Nat} (v : BitVec w) (n : Nat) : Arith w :=
  let r := BitVec.ofNat w (v.toNat / 2 ^ (w - 1) * 2 ^ (w - 1) + v.toNat * 2 ^ n % 2 ^ (w - 1))
  { value := r
    cc := if fitsSigned w (v.toInt * 2 ^ n) then ccSign r else 3
    overflow := !fitsSigned w (v.toInt * 2 ^ n) }

/-- Arithmetic shift right by `n`: the floor of the quotient by `2^n` (R319, R323). -/
def shiftRightArith {w : Nat} (v : BitVec w) (n : Nat) : BitVec w := BitVec.ofInt w (v.toInt / 2 ^ n)

/-- Logical shift left by `n` (R318, R322). -/
def shiftLeftLogical {w : Nat} (v : BitVec w) (n : Nat) : BitVec w := BitVec.ofNat w (v.toNat * 2 ^ n)

/-- Logical shift right by `n` (R317, R321). -/
def shiftRightLogical {w : Nat} (v : BitVec w) (n : Nat) : BitVec w := BitVec.ofNat w (v.toNat / 2 ^ n)

/-- The code of Test Under Mask; the first test wins (R326). -/
def ccMask (b mask : Byte) : CC := if b &&& mask = 0 then 0 else if b &&& mask = mask then 3 else 1

/-- A half word sign-extended to a word, `sext16` (42, header). -/
def sext16 (v : Nat) : Word := (BitVec.ofNat 16 v).signExtend 32

/-- `CondTrue(M1)`: the mask bit `8 >> cc` is 1 (R129, R28). -/
def condTrue (m : RegNum) (cc : CC) : Bool := (m &&& ((8 : BitVec 4) >>> cc.toNat)) != 0

/-- `LinkWord = ilc || cc || pm || next` (10_state R25). -/
def State.linkWord (s : State) : Word := s.ilc ++ s.cc ++ s.pm ++ s.next

/-- A condition with a program-mask bit is raised only when its bit is 1 (R425, R30). -/
def State.masked (s : State) (k : Nat) (happened : Bool) (c : Condition) : Option Condition :=
  if happened && s.pmBit k then some c else none

/-- Completed with a fixed-point result: register and `cc` written, FixedPointOverflow if it overflowed and `pm{0}`
is 1 (R122). -/
def State.finishArith (s : State) (r : RegNum) (v : Arith 32) : Result :=
  ((s.setGpr r v.value).setCC v.cc).completeWith (s.masked 0 v.overflow .fixedPointOverflow)

/-- The same for an even-odd pair (R324). -/
def State.finishArithPair (s : State) (r : RegNum) (v : Arith 64) : Result :=
  ((s.setPair r v.value).setCC v.cc).completeWith (s.masked 0 v.overflow .fixedPointOverflow)

/-- Completed with a bit-string result: register written, `cc` 0 if it is zero, else 1 (R141). -/
def State.finishLogic (s : State) (r : RegNum) (v : Word) : Result :=
  ((s.setGpr r v).setCC (ccLogic v)).complete

/-- Completed with a quotient and remainder, or suppressed with DivideError (R150, D22). -/
def State.finishDivide (s : State) (r : RegNum) : Option (Word × Word) → Result
  | none => s.suppress .divideError .none
  | some (q, rem) => ((s.setGpr r rem).setGpr (r + 1) q).complete

/-- Branch to `t` if the test holds, else on to `next` (R128, R11 step (4)). -/
def State.branchIf (s : State) (taken : Bool) (t : Addr) : Result :=
  .next (if taken then s.branchTo t else s.advance)

end Sys2Proof.Machine
end

