-- ==== Sys2Proof/Machine/FloatLaws.lean ====
section
/-! DEFINITION. The hexadecimal floating-point laws (41_rr_floating R180 to R189) on numbers of `n` hexadecimal
fraction digits, `n = 6` short and `n = 14` long. -/

namespace Sys2Proof.Machine

/-- Sign, characteristic and fraction (R180). The characteristic of an intermediate result is an unbounded integer
(R183). -/
structure Unpacked where
  sign : Bool
  char : Int
  frac : Nat
  deriving DecidableEq, Repr

/-- `Unpack(v, n)` (R182). -/
def unpack (n v : Nat) : Unpacked :=
  { sign := v / (128 * 16 ^ n) % 2 == 1, char := (v / 16 ^ n % 128 : Nat), frac := v % 16 ^ n }

/-- `Pack(S, C, F, n)`, for `0 ≤ C ≤ 127` (R182). -/
def pack (n : Nat) (sign : Bool) (c : Int) (f : Nat) : Nat := ((if sign then 128 else 0) + c.toNat) * 16 ^ n + f

/-- The loop of R183: shift left by digits while the fraction is below `limit`, at most `fuel` times. -/
def normalizeFrac : Nat → Nat → Int → Nat → Int × Nat
  | 0, _, c, m => (c, m)
  | fuel + 1, limit, c, m => if m < limit then normalizeFrac fuel limit (c - 1) (m * 16) else (c, m)

/-- A fraction of `k` digits, not zero, normalized (R183). -/
def normalizeDigits (k : Nat) (c : Int) (m : Nat) : Int × Nat := normalizeFrac k (16 ^ (k - 1)) c m

/-- What becomes of the destination register. -/
inductive FValue where
  | keep
  | set (v : Nat)
  /-- any value (U6, U7) -/
  | any
  deriving DecidableEq, Repr

/-- What becomes of `cc`. -/
inductive FCode where
  | keep
  | set (c : CC)
  /-- any of 0, 1, 2 (R184, U14) -/
  | anyBelow3
  deriving DecidableEq, Repr

/-- The outcome of a floating-point operation. -/
structure FResult where
  value : FValue
  cc : FCode
  raised : Option Condition
  deriving DecidableEq, Repr

/-- The signed fraction of an operand aligned to characteristic `c`, with `g` guard digits (R184). -/
def alignedFrac (g : Nat) (u : Unpacked) (c : Int) : Int :=
  let m := u.frac * 16 ^ g / 16 ^ (c - u.char).toNat
  if u.sign then -(m : Int) else m

/-- The second operand with its sign inverted for a subtraction (R184). -/
def negateIf (u : Unpacked) (negate : Bool) : Unpacked := { u with sign := xor u.sign negate }

/-- `T` of R184, the exact signed sum of the aligned fractions. -/
def fSum (n g : Nat) (negate : Bool) (a b : Nat) : Int :=
  let ua := unpack n a
  let ub := negateIf (unpack n b) negate
  alignedFrac g ua (max ua.char ub.char) + alignedFrac g ub (max ua.char ub.char)

/-- The end of `FAdd`: the guard digit is dropped; a zero fraction has a plus sign (R184). -/
def fAddPack (n g : Nat) (sign : Bool) (c : Int) (m : Nat) : FResult :=
  if m / 16 ^ g = 0 then { value := .set (pack n false c 0), cc := .set 0, raised := none }
  else { value := .set (pack n sign c (m / 16 ^ g)), cc := .set (if sign then 1 else 2), raised := none }

/-- Exponent underflow: with `pm{2}` the condition is raised and the value is any, else a true zero (R188). -/
def fUnderflow (mask : Bool) (any zero : FCode) : FResult :=
  if mask then { value := .any, cc := any, raised := some .exponentUnderflow }
  else { value := .set 0, cc := zero, raised := none }

/-- Exponent overflow: the value is any (R188). -/
def fOverflow (cc : FCode) : FResult := { value := .any, cc := cc, raised := some .exponentOverflow }

/-- `FAdd` after the fraction carry, with characteristic `c` and magnitude `m` (R184). `pm2` and `pm3` are the
exponent-underflow and significance mask bits. -/
def fAddFinish (n g : Nat) (normalize pm2 pm3 sign : Bool) (c : Int) (m : Nat) : FResult :=
  if 127 < c then fOverflow (.set 3)
  else if m = 0 then
    if pm3 then { value := .set (pack n false c 0), cc := .set 0, raised := some .significantError }
    else { value := .set 0, cc := .set 0, raised := none }
  else if normalize then
    let cm := normalizeDigits (n + g) c m
    if cm.1 < 0 then fUnderflow pm2 .anyBelow3 (.set 0) else fAddPack n g sign cm.1 cm.2
  else fAddPack n g sign c m

/-- `FAdd(a, b, n, normalize, negate_b)` (R184). -/
def fAdd (n g : Nat) (normalize negate pm2 pm3 : Bool) (a b : Nat) : FResult :=
  let c := max (unpack n a).char (unpack n b).char
  let t := fSum n g negate a b
  if t.natAbs < 16 ^ (n + g) then fAddFinish n g normalize pm2 pm3 (decide (t < 0)) c t.natAbs
  else fAddFinish n g normalize pm2 pm3 (decide (t < 0)) (c + 1) (t.natAbs / 16)

/-- `FCompare(a, b, n)` (R185). -/
def fCompare (n g : Nat) (a b : Nat) : CC := ccOfInt (fSum n g true a b)

/-- The range test on the final characteristic, for multiply and divide (R186, R187). -/
def fRange (n : Nat) (pm2 sign : Bool) (c : Int) (f : Nat) : FResult :=
  if 127 < c then fOverflow .keep
  else if c < 0 then fUnderflow pm2 .keep .keep
  else { value := .set (pack n sign c f), cc := .keep, raised := none }

/-- `FMul(a, b, 14)`, long (R186). -/
def fMulLong (g : Nat) (pm2 : Bool) (a b : Nat) : FResult :=
  let ua := unpack 14 a
  let ub := unpack 14 b
  if ua.frac = 0 ∨ ub.frac = 0 then { value := .set 0, cc := .keep, raised := none }
  else
    let na := normalizeDigits 14 ua.char ua.frac
    let nb := normalizeDigits 14 ub.char ub.frac
    let c := na.1 + nb.1 - 64
    let m := na.2 * nb.2 / 16 ^ (14 - g)
    if m < 16 ^ (14 + g - 1) then fRange 14 pm2 (xor ua.sign ub.sign) (c - 1) (m * 16 / 16 ^ g)
    else fRange 14 pm2 (xor ua.sign ub.sign) c (m / 16 ^ g)

/-- `FMul(a, b, 6)`, short operands and a long result of 12 product digits and two zero digits (R186). -/
def fMulShort (pm2 : Bool) (a b : Nat) : FResult :=
  let ua := unpack 6 a
  let ub := unpack 6 b
  if ua.frac = 0 ∨ ub.frac = 0 then { value := .set 0, cc := .keep, raised := none }
  else
    let na := normalizeDigits 6 ua.char ua.frac
    let nb := normalizeDigits 6 ub.char ub.frac
    let c := na.1 + nb.1 - 64
    let p := na.2 * nb.2
    if p < 16 ^ 11 then fRange 14 pm2 (xor ua.sign ub.sign) (c - 1) (p * 16 * 16 ^ 2)
    else fRange 14 pm2 (xor ua.sign ub.sign) c (p * 16 ^ 2)

/-- `FDiv(a, b, n)` (R187). -/
def fDiv (n : Nat) (pm2 : Bool) (a b : Nat) : FResult :=
  let ua := unpack n a
  let ub := unpack n b
  if ub.frac = 0 then { value := .keep, cc := .keep, raised := some .divideError }
  else if ua.frac = 0 then { value := .set 0, cc := .keep, raised := none }
  else
    let na := normalizeDigits n ua.char ua.frac
    let nb := normalizeDigits n ub.char ub.frac
    let c := na.1 - nb.1 + 64
    if nb.2 ≤ na.2 then fRange n pm2 (xor ua.sign ub.sign) (c + 1) (na.2 * 16 ^ (n - 1) / nb.2)
    else fRange n pm2 (xor ua.sign ub.sign) c (na.2 * 16 ^ n / nb.2)

/-- `Halve(v, n)` (R189; log 27 on the number of digits post-normalization works on). -/
def fHalve (n : Nat) (normalizes pm2 : Bool) (v : Nat) : FResult :=
  let u := unpack n v
  let f := u.frac / 2
  if normalizes then
    if f = 0 then { value := .set 0, cc := .keep, raised := none }
    else
      let cm := normalizeDigits n u.char f
      if cm.1 < 0 then fUnderflow pm2 .keep .keep
      else { value := .set (pack n u.sign cm.1 cm.2), cc := .keep, raised := none }
  else { value := .set (pack n u.sign u.char f), cc := .keep, raised := none }

/-- `FSignCC(v, n)` (R189). -/
def fSignCC (n v : Nat) : CC :=
  if (unpack n v).frac = 0 then 0 else if (unpack n v).sign then 1 else 2

/-- `v` with its sign bit, the leftmost, set, cleared or inverted (R190, R191, R193). -/
def signSet {w : Nat} (v : BitVec w) : BitVec w := v ||| BitVec.ofNat w (2 ^ (w - 1))
/-- See `signSet`. -/
def signClear {w : Nat} (v : BitVec w) : BitVec w := v &&& ~~~BitVec.ofNat w (2 ^ (w - 1))
/-- See `signSet`. -/
def signInvert {w : Nat} (v : BitVec w) : BitVec w := v ^^^ BitVec.ofNat w (2 ^ (w - 1))

/-- `g`, the number of guard digits (R182, D17). -/
def State.guardDigits (s : State) (n : Nat) : Nat := if n = 6 ∨ s.cfg.fpLongGuard = true then 1 else 0

/-- `cc` after a floating-point operation. -/
def State.setFCode (s : State) : FCode → State
  | .keep => s
  | .set c => s.setCC c
  | .anyBelow3 => s.freeCCBelow3

/-- `f[r]` after a floating-point operation with a long result. -/
def State.setFValue (s : State) (r : RegNum) : FValue → State
  | .keep => s
  | .set v => s.setFpr r (BitVec.ofNat 64 v)
  | .any => s.freeFpr r

/-- `fs[r]` after a floating-point operation with a short result. -/
def State.setFValueShort (s : State) (r : RegNum) : FValue → State
  | .keep => s
  | .set v => s.setFprShort r (BitVec.ofNat 32 v)
  | .any => s.freeFprShort r

/-- The end of a floating-point instruction with a long result (R184 to R188): completed, suppressed or terminated as
the outcome says. -/
def State.finishLong (s : State) (r : RegNum) (v : FResult) : Result :=
  ((s.setFValue r v.value).setFCode v.cc).completeWith v.raised

/-- The same with a short result. -/
def State.finishShort (s : State) (r : RegNum) (v : FResult) : Result :=
  ((s.setFValueShort r v.value).setFCode v.cc).completeWith v.raised

end Sys2Proof.Machine
end

