-- ==== Sys2Proof/Machine/RrFloating.lean ====
section
/-! DEFINITION. The RR floating-point instructions of operation codes 20 to 3F (41_rr_floating R190 to R215). -/

namespace Sys2Proof.Machine

/-- LPDR (R190). -/
def execLpdr (r1 r2 : RegNum) (s : State) : Result :=
  s.withFregs r1 r2 (((s.setFpr r1 (signClear (s.fpr r2))).setCC (fSignCC 14 (signClear (s.fpr r2)).toNat)).complete)

/-- LNDR (R191). -/
def execLndr (r1 r2 : RegNum) (s : State) : Result :=
  s.withFregs r1 r2 (((s.setFpr r1 (signSet (s.fpr r2))).setCC (fSignCC 14 (signSet (s.fpr r2)).toNat)).complete)

/-- LTDR (R192). -/
def execLtdr (r1 r2 : RegNum) (s : State) : Result :=
  s.withFregs r1 r2 (((s.setFpr r1 (s.fpr r2)).setCC (fSignCC 14 (s.fpr r2).toNat)).complete)

/-- LCDR (R193). -/
def execLcdr (r1 r2 : RegNum) (s : State) : Result :=
  s.withFregs r1 r2 (((s.setFpr r1 (signInvert (s.fpr r2))).setCC (fSignCC 14 (signInvert (s.fpr r2)).toNat)).complete)

/-- HDR (R194). -/
def execHdr (r1 r2 : RegNum) (s : State) : Result :=
  s.withFregs r1 r2 (s.finishLong r1 (fHalve 14 s.cfg.halveNormalizes (s.pmBit 2) (s.fpr r2).toNat))

/-- LDR (R195). -/
def execLdr (r1 r2 : RegNum) (s : State) : Result :=
  s.withFregs r1 r2 (s.setFpr r1 (s.fpr r2)).complete

/-- CDR (R196). -/
def execCdr (r1 r2 : RegNum) (s : State) : Result :=
  s.withFregs r1 r2
    (s.setCC (fCompare 14 (s.guardDigits 14) (s.fpr r1).toNat (s.fpr r2).toNat)).complete

/-- ADR (R197). -/
def execAdr (r1 r2 : RegNum) (s : State) : Result :=
  s.withFregs r1 r2 (s.finishLong r1 (fAdd 14 (s.guardDigits 14) true false (s.pmBit 2) (s.pmBit 3)
    (s.fpr r1).toNat (s.fpr r2).toNat))

/-- SDR (R198). -/
def execSdr (r1 r2 : RegNum) (s : State) : Result :=
  s.withFregs r1 r2 (s.finishLong r1 (fAdd 14 (s.guardDigits 14) true true (s.pmBit 2) (s.pmBit 3)
    (s.fpr r1).toNat (s.fpr r2).toNat))

/-- AWR (R201). -/
def execAwr (r1 r2 : RegNum) (s : State) : Result :=
  s.withFregs r1 r2 (s.finishLong r1 (fAdd 14 (s.guardDigits 14) false false (s.pmBit 2) (s.pmBit 3)
    (s.fpr r1).toNat (s.fpr r2).toNat))

/-- SWR (R202). -/
def execSwr (r1 r2 : RegNum) (s : State) : Result :=
  s.withFregs r1 r2 (s.finishLong r1 (fAdd 14 (s.guardDigits 14) false true (s.pmBit 2) (s.pmBit 3)
    (s.fpr r1).toNat (s.fpr r2).toNat))

/-- MDR (R199). -/
def execMdr (r1 r2 : RegNum) (s : State) : Result :=
  s.withFregs r1 r2
    (s.finishLong r1 (fMulLong (s.guardDigits 14) (s.pmBit 2) (s.fpr r1).toNat (s.fpr r2).toNat))

/-- DDR (R200). -/
def execDdr (r1 r2 : RegNum) (s : State) : Result :=
  s.withFregs r1 r2 (s.finishLong r1 (fDiv 14 (s.pmBit 2) (s.fpr r1).toNat (s.fpr r2).toNat))

/-- LPER (R203). -/
def execLper (r1 r2 : RegNum) (s : State) : Result :=
  s.withFregs r1 r2
    (((s.setFprShort r1 (signClear (s.fprShort r2))).setCC (fSignCC 6 (signClear (s.fprShort r2)).toNat)).complete)

/-- LNER (R204). -/
def execLner (r1 r2 : RegNum) (s : State) : Result :=
  s.withFregs r1 r2
    (((s.setFprShort r1 (signSet (s.fprShort r2))).setCC (fSignCC 6 (signSet (s.fprShort r2)).toNat)).complete)

/-- LTER (R205). -/
def execLter (r1 r2 : RegNum) (s : State) : Result :=
  s.withFregs r1 r2
    (((s.setFprShort r1 (s.fprShort r2)).setCC (fSignCC 6 (s.fprShort r2).toNat)).complete)

/-- LCER (R206). -/
def execLcer (r1 r2 : RegNum) (s : State) : Result :=
  s.withFregs r1 r2
    (((s.setFprShort r1 (signInvert (s.fprShort r2))).setCC (fSignCC 6 (signInvert (s.fprShort r2)).toNat)).complete)

/-- HER (R207). -/
def execHer (r1 r2 : RegNum) (s : State) : Result :=
  s.withFregs r1 r2 (s.finishShort r1 (fHalve 6 s.cfg.halveNormalizes (s.pmBit 2) (s.fprShort r2).toNat))

/-- LER (R208). -/
def execLer (r1 r2 : RegNum) (s : State) : Result :=
  s.withFregs r1 r2 (s.setFprShort r1 (s.fprShort r2)).complete

/-- CER (R209). -/
def execCer (r1 r2 : RegNum) (s : State) : Result :=
  s.withFregs r1 r2
    (s.setCC (fCompare 6 (s.guardDigits 6) (s.fprShort r1).toNat (s.fprShort r2).toNat)).complete

/-- AER (R210). -/
def execAer (r1 r2 : RegNum) (s : State) : Result :=
  s.withFregs r1 r2 (s.finishShort r1 (fAdd 6 (s.guardDigits 6) true false (s.pmBit 2) (s.pmBit 3)
    (s.fprShort r1).toNat (s.fprShort r2).toNat))

/-- SER (R211). -/
def execSer (r1 r2 : RegNum) (s : State) : Result :=
  s.withFregs r1 r2 (s.finishShort r1 (fAdd 6 (s.guardDigits 6) true true (s.pmBit 2) (s.pmBit 3)
    (s.fprShort r1).toNat (s.fprShort r2).toNat))

/-- AUR (R214). -/
def execAur (r1 r2 : RegNum) (s : State) : Result :=
  s.withFregs r1 r2 (s.finishShort r1 (fAdd 6 (s.guardDigits 6) false false (s.pmBit 2) (s.pmBit 3)
    (s.fprShort r1).toNat (s.fprShort r2).toNat))

/-- SUR (R215). -/
def execSur (r1 r2 : RegNum) (s : State) : Result :=
  s.withFregs r1 r2 (s.finishShort r1 (fAdd 6 (s.guardDigits 6) false true (s.pmBit 2) (s.pmBit 3)
    (s.fprShort r1).toNat (s.fprShort r2).toNat))

/-- MER (R212): the long product replaces all 64 bits. -/
def execMer (r1 r2 : RegNum) (s : State) : Result :=
  s.withFregs r1 r2 (s.finishLong r1 (fMulShort (s.pmBit 2) (s.fprShort r1).toNat (s.fprShort r2).toNat))

/-- DER (R213). -/
def execDer (r1 r2 : RegNum) (s : State) : Result :=
  s.withFregs r1 r2
    (s.finishShort r1 (fDiv 6 (s.pmBit 2) (s.fprShort r1).toNat (s.fprShort r2).toNat))


end Sys2Proof.Machine
end

