-- ==== Sys2Proof/Machine/RrGeneral.lean ====
section
/-! DEFINITION. The RR instructions of operation codes 00 to 1F (40_rr_general R130 to R152). -/

namespace Sys2Proof.Machine

/-- SPM (R130): bits 2-3 of the register go to `cc`, bits 4-7 to `pm`. -/
def execSpm (r1 : RegNum) (s : State) : Result :=
  ((s.setCC ((s.gpr r1).extractLsb' 28 2)).setPm ((s.gpr r1).extractLsb' 24 4)).complete

/-- BALR (R131): the target is read before the link word is stored; R2 = 0 is no branch. -/
def execBalr (r1 r2 : RegNum) (s : State) : Result :=
  (s.setGpr r1 s.linkWord).branchIf (r2 != 0) (s.regTarget r2)

/-- BCTR (R132): the decremented value is tested; R2 = 0 is no branch. -/
def execBctr (r1 r2 : RegNum) (s : State) : Result :=
  (s.setGpr r1 (s.gpr r1 - 1)).branchIf (s.gpr r1 - 1 != 0 && r2 != 0) (s.regTarget r2)

/-- BCR (R133): R2 = 0 is no branch. -/
def execBcr (m1 r2 : RegNum) (s : State) : Result :=
  s.branchIf (condTrue m1 s.cc && r2 != 0) (s.regTarget r2)

/-- The block `x[R2]{8-20}` SSK and ISK name (R134, R135). -/
def State.keyBlock (s : State) (r2 : RegNum) : Nat := blockOf (s.regTarget r2)

/-- Go on if the block lies in storage, else AddressError(addressing), suppressed (R134). -/
def State.withBlock (s : State) (r2 : RegNum) (k : Nat → Result) : Result :=
  if s.cfg.memSize ≤ s.keyBlock r2 * 2048 then s.addressFault .addressing else k (s.keyBlock r2)

/-- The four key bits of a register, from card bit `keyBit` on (D24; log 17). -/
def State.keyField (s : State) (r : RegNum) : BitVec 4 := (s.gpr r).extractLsb' (28 - s.cfg.keyBit) 4

/-- A word with its key field replaced (R135). -/
def withKeyField (keyBit : Nat) (v : Word) (k : BitVec 4) : Word :=
  BitVec.ofNat 32 (v.toNat / 2 ^ (32 - keyBit) * 2 ^ (32 - keyBit) + k.toNat * 2 ^ (28 - keyBit) +
    v.toNat % 2 ^ (28 - keyBit))

/-- SSK (R134), privileged. -/
def execSsk (r1 r2 : RegNum) (s : State) : Result :=
  s.privileged (s.withBlock r2 fun b => (s.setKey b (s.keyField r1)).complete)

/-- ISK (R135), privileged: the bits right of the key hold any value (U4; log 17). -/
def execIsk (r1 r2 : RegNum) (s : State) : Result :=
  s.privileged (s.withBlock r2 fun b =>
    ((s.setGpr r1 (withKeyField s.cfg.keyBit (s.gpr r1) (s.keyAt b))).freeGprLow r1 (28 - s.cfg.keyBit)).complete)

/-- SVC (R136): SupervisorCall(I) always, completed. -/
def execSvc (i : Byte) (s : State) : Result :=
  .next (s.advance.raise .supervisorCall (.svc i))

/-- LPR (R137). -/
def execLpr (r1 r2 : RegNum) (s : State) : Result :=
  s.finishArith r1 (loadPositive (s.gpr r2))

/-- LNR (R138). -/
def execLnr (r1 r2 : RegNum) (s : State) : Result :=
  s.finishArith r1 (loadNegative (s.gpr r2))

/-- LTR (R139). -/
def execLtr (r1 r2 : RegNum) (s : State) : Result :=
  ((s.setGpr r1 (s.gpr r2)).setCC (ccSign (s.gpr r2))).complete

/-- LCR (R140). -/
def execLcr (r1 r2 : RegNum) (s : State) : Result :=
  s.finishArith r1 (loadComplement (s.gpr r2))

/-- NR (R141). -/
def execNr (r1 r2 : RegNum) (s : State) : Result :=
  s.finishLogic r1 (s.gpr r1 &&& s.gpr r2)

/-- OR (R143). -/
def execOr (r1 r2 : RegNum) (s : State) : Result :=
  s.finishLogic r1 (s.gpr r1 ||| s.gpr r2)

/-- XR (R144). -/
def execXr (r1 r2 : RegNum) (s : State) : Result :=
  s.finishLogic r1 (s.gpr r1 ^^^ s.gpr r2)

/-- CLR (R142). -/
def execClr (r1 r2 : RegNum) (s : State) : Result :=
  (s.setCC (compareLogical (s.gpr r1).toNat (s.gpr r2).toNat)).complete

/-- LR (R145). -/
def execLr (r1 r2 : RegNum) (s : State) : Result :=
  (s.setGpr r1 (s.gpr r2)).complete

/-- CR (R146). -/
def execCr (r1 r2 : RegNum) (s : State) : Result :=
  (s.setCC (compareSigned (s.gpr r1) (s.gpr r2))).complete

/-- AR (R147). -/
def execAr (r1 r2 : RegNum) (s : State) : Result :=
  s.finishArith r1 (addSigned (s.gpr r1) (s.gpr r2))

/-- SR (R148). -/
def execSr (r1 r2 : RegNum) (s : State) : Result :=
  s.finishArith r1 (subSigned (s.gpr r1) (s.gpr r2))

/-- ALR (R151). -/
def execAlr (r1 r2 : RegNum) (s : State) : Result :=
  s.finishArith r1 (addLogical (s.gpr r1) (s.gpr r2))

/-- SLR (R152). -/
def execSlr (r1 r2 : RegNum) (s : State) : Result :=
  s.finishArith r1 (subLogical (s.gpr r1) (s.gpr r2))

/-- MR (R149): the multiplicand is the odd register of the pair. -/
def execMr (r1 r2 : RegNum) (s : State) : Result :=
  s.withEven r1 (s.setPair r1 (mulSigned (s.gpr (r1 + 1)) (s.gpr r2))).complete

/-- DR (R150): remainder in R1, quotient in R1+1. -/
def execDr (r1 r2 : RegNum) (s : State) : Result :=
  s.withEven r1 (s.finishDivide r1 (divSigned (s.pair r1) (s.gpr r2)))


end Sys2Proof.Machine
end

