-- ==== Sys2Proof/Machine/RsSi.lean ====
section
/-! DEFINITION. The RS and SI instructions of operation codes 80 to BF (44_rs_si R310 to R340). -/

namespace Sys2Proof.Machine

/-- IDL (R310), privileged; the spec gives it no semantics and refuses it (R4 (1), D18; log 16). -/
def execIdl (_i2 : Byte) (s : State) : Result :=
  s.privileged (.refused (.noSemanticsInSource "IDL"))

/-- PC (R311), privileged; the spec gives it no semantics and refuses it (R4 (1), D18; log 16). -/
def execPc (_i2 : Byte) (_b1 : RegNum) (_d1 : Disp) (s : State) : Result :=
  s.privileged (.refused (.noSemanticsInSource "PC"))

/-- DIG (R312), privileged; the spec gives it no semantics and refuses it (R4 (1), D18; log 16). -/
def execDig (_i2 : Byte) (_b1 : RegNum) (_d1 : Disp) (s : State) : Result :=
  s.privileged (.refused (.noSemanticsInSource "DIG"))

/-- WRD (R313), privileged; the spec gives it no semantics and refuses it (R4 (1), D18; log 16). -/
def execWrd (_i2 : Byte) (_b1 : RegNum) (_d1 : Disp) (s : State) : Result :=
  s.privileged (.refused (.noSemanticsInSource "WRD"))

/-- RDD (R314), privileged; the spec gives it no semantics and refuses it (R4 (1), D18; log 16). -/
def execRdd (_i2 : Byte) (_b1 : RegNum) (_d1 : Disp) (s : State) : Result :=
  s.privileged (.refused (.noSemanticsInSource "RDD"))

/-- The comparand of the index branches: `x[R3 OR 1]` (R315). -/
def State.comparand (s : State) (r3 : RegNum) : Word := s.gpr (r3 ||| 1)

/-- BXH (R315): increment and comparand are read before the sum is written. -/
def execBxh (r1 r3 b2 : RegNum) (d2 : Disp) (s : State) : Result :=
  (s.setGpr r1 (s.gpr r1 + s.gpr r3)).branchIf
    (decide ((s.comparand r3).toInt < (s.gpr r1 + s.gpr r3).toInt)) (s.eab d2 b2)

/-- BXLE (R316). -/
def execBxle (r1 r3 b2 : RegNum) (d2 : Disp) (s : State) : Result :=
  (s.setGpr r1 (s.gpr r1 + s.gpr r3)).branchIf
    (decide ((s.gpr r1 + s.gpr r3).toInt ≤ (s.comparand r3).toInt)) (s.eab d2 b2)

/-- SRL (R317). -/
def execSrl (r1 b2 : RegNum) (d2 : Disp) (s : State) : Result :=
  (s.setGpr r1 (shiftRightLogical (s.gpr r1) (s.shiftAmount d2 b2))).complete

/-- SLL (R318). -/
def execSll (r1 b2 : RegNum) (d2 : Disp) (s : State) : Result :=
  (s.setGpr r1 (shiftLeftLogical (s.gpr r1) (s.shiftAmount d2 b2))).complete

/-- SRA (R319). -/
def execSra (r1 b2 : RegNum) (d2 : Disp) (s : State) : Result :=
  ((s.setGpr r1 (shiftRightArith (s.gpr r1) (s.shiftAmount d2 b2))).setCC
    (ccSign (shiftRightArith (s.gpr r1) (s.shiftAmount d2 b2)))).complete

/-- SLA (R320). -/
def execSla (r1 b2 : RegNum) (d2 : Disp) (s : State) : Result :=
  s.finishArith r1 (shiftLeftArith (s.gpr r1) (s.shiftAmount d2 b2))

/-- SRDL (R321). -/
def execSrdl (r1 b2 : RegNum) (d2 : Disp) (s : State) : Result :=
  s.withEven r1 (s.setPair r1 (shiftRightLogical (s.pair r1) (s.shiftAmount d2 b2))).complete

/-- SLDL (R322). -/
def execSldl (r1 b2 : RegNum) (d2 : Disp) (s : State) : Result :=
  s.withEven r1 (s.setPair r1 (shiftLeftLogical (s.pair r1) (s.shiftAmount d2 b2))).complete

/-- SRDA (R323). -/
def execSrda (r1 b2 : RegNum) (d2 : Disp) (s : State) : Result :=
  s.withEven r1 ((s.setPair r1 (shiftRightArith (s.pair r1) (s.shiftAmount d2 b2))).setCC
    (ccSign (shiftRightArith (s.pair r1) (s.shiftAmount d2 b2)))).complete

/-- SLDA (R324). -/
def execSlda (r1 b2 : RegNum) (d2 : Disp) (s : State) : Result :=
  s.withEven r1 (s.finishArithPair r1 (shiftLeftArith (s.pair r1) (s.shiftAmount d2 b2)))

/-- `k`, the number of registers from R1 up to R3, wrapping from 15 to 0 (R325). -/
def registerCount (r1 r3 : RegNum) : Nat := (r3 - r1).toNat + 1

/-- `k` registers from `r` on stored as words from `a` on, ascending (R325). -/
def State.storeRegisters (s : State) : Nat → RegNum → Addr → Memory → Memory
  | 0, _, _, m => m
  | k + 1, r, a, m => s.storeRegisters k (r + 1) (a + 4) (m.storeValue a 4 (s.gpr r).toNat)

/-- `k` registers from `r` on loaded from words from `a` on, ascending (R333); none if a byte has no value (R68). -/
def State.loadRegisters : State → Nat → RegNum → Addr → Option State
  | s, 0, _, _ => some s
  | s, k + 1, r, a =>
    match s.mem.value a 4 with
    | none => none
    | some v => (s.setGpr r (BitVec.ofNat 32 v)).loadRegisters k (r + 1) (a + 4)

/-- STM (R325): misalignment suppresses; an access fault terminates with the bytes that lie in storage holding any value. -/
def execStm (r1 r3 b2 : RegNum) (d2 : Disp) (s : State) : Result :=
  if (s.eab d2 b2).toNat % 4 ≠ 0 then s.addressFault .specification
  else match s.fieldFault (s.eab d2 b2) (4 * registerCount r1 r3) 0 0 true with
    | some c => accessTerminated (s.freeBytes (s.eab d2 b2) (4 * registerCount r1 r3)) c
    | none => (s.setMem (s.storeRegisters (registerCount r1 r3) r1 (s.eab d2 b2) s.mem)).complete

/-- LM (R333): on an addressing fault the registers R1 to R3 hold any value. -/
def execLm (r1 r3 b2 : RegNum) (d2 : Disp) (s : State) : Result :=
  if (s.eab d2 b2).toNat % 4 ≠ 0 then s.addressFault .specification
  else match s.fieldFault (s.eab d2 b2) (4 * registerCount r1 r3) 0 0 false with
    | some c => accessTerminated (s.freeGprs r1 (registerCount r1 r3)) c
    | none =>
      match s.loadRegisters (registerCount r1 r3) r1 (s.eab d2 b2) with
      | none => .refused .noValue
      | some t => t.complete

/-- TM (R326). -/
def execTm (i2 : Byte) (b1 : RegNum) (d1 : Disp) (s : State) : Result :=
  s.withRead (s.eab d1 b1) 1 fun v => (s.setCC (ccMask (BitVec.ofNat 8 v) i2)).complete

/-- MVI (R327). -/
def execMvi (i2 : Byte) (b1 : RegNum) (d1 : Disp) (s : State) : Result :=
  s.withWrite (s.eab d1 b1) 1 i2.toNat fun t => t.complete

/-- TS (R328): the code is the leftmost bit of the byte fetched; the byte becomes FF. -/
def execTs (b1 : RegNum) (d1 : Disp) (s : State) : Result :=
  s.withUpdate (s.eab d1 b1) (fun _ => 0xFF) fun v t => (t.setCC (if v.msb then 1 else 0)).complete

/-- NI (R329). -/
def execNi (i2 : Byte) (b1 : RegNum) (d1 : Disp) (s : State) : Result :=
  s.withUpdate (s.eab d1 b1) (fun v => v &&& i2) fun v t => (t.setCC (ccLogic (v &&& i2))).complete

/-- OI (R331). -/
def execOi (i2 : Byte) (b1 : RegNum) (d1 : Disp) (s : State) : Result :=
  s.withUpdate (s.eab d1 b1) (fun v => v ||| i2) fun v t => (t.setCC (ccLogic (v ||| i2))).complete

/-- XI (R332). -/
def execXi (i2 : Byte) (b1 : RegNum) (d1 : Disp) (s : State) : Result :=
  s.withUpdate (s.eab d1 b1) (fun v => v ^^^ i2) fun v t => (t.setCC (ccLogic (v ^^^ i2))).complete

/-- CLI (R330): the storage byte is operand A. -/
def execCli (i2 : Byte) (b1 : RegNum) (d1 : Disp) (s : State) : Result :=
  s.withRead (s.eab d1 b1) 1 fun v => (s.setCC (compareLogical v i2.toNat)).complete

/-- SDV (R334), privileged; the spec gives it no semantics and refuses it (R4 (1), D18; log 16). -/
def execSdv (_b1 : RegNum) (_d1 : Disp) (s : State) : Result :=
  s.privileged (.refused (.noSemanticsInSource "SDV"))

/-- TDV (R335), privileged; the spec gives it no semantics and refuses it (R4 (1), D18; log 16). -/
def execTdv (_b1 : RegNum) (_d1 : Disp) (s : State) : Result :=
  s.privileged (.refused (.noSemanticsInSource "TDV"))

/-- HDV (R336), privileged; the spec gives it no semantics and refuses it (R4 (1), D18; log 16). -/
def execHdv (_b1 : RegNum) (_d1 : Disp) (s : State) : Result :=
  s.privileged (.refused (.noSemanticsInSource "HDV"))

/-- CKC (R337), privileged; the spec gives it no semantics and refuses it (R4 (1), D18; log 16). -/
def execCkc (_b1 : RegNum) (_d1 : Disp) (s : State) : Result :=
  s.privileged (.refused (.noSemanticsInSource "CKC"))


end Sys2Proof.Machine
end

