-- ==== Sys2Proof/Machine/RxFloating.lean ====
section
/-! DEFINITION. The RX floating-point instructions of operation codes 60 to 7F (43_rx_floating R280 to R297). -/

namespace Sys2Proof.Machine

/-- STD (R280). -/
def execStd (r1 x2 b2 : RegNum) (d2 : Disp) (s : State) : Result :=
  s.withFreg r1 (s.withWrite (s.ea d2 x2 b2) 8 (s.fpr r1).toNat fun t => t.complete)

/-- LD (R281). -/
def execLd (r1 x2 b2 : RegNum) (d2 : Disp) (s : State) : Result :=
  s.withFreg r1 (s.withRead (s.ea d2 x2 b2) 8 fun v => (s.setFpr r1 (BitVec.ofNat 64 v)).complete)

/-- CD (R282). -/
def execCd (r1 x2 b2 : RegNum) (d2 : Disp) (s : State) : Result :=
  s.withFreg r1 (s.withRead (s.ea d2 x2 b2) 8 fun v =>
    (s.setCC (fCompare 14 (s.guardDigits 14) (s.fpr r1).toNat v)).complete)

/-- AD (R283). -/
def execAd (r1 x2 b2 : RegNum) (d2 : Disp) (s : State) : Result :=
  s.withFreg r1 (s.withRead (s.ea d2 x2 b2) 8 fun v => s.finishLong r1 (fAdd 14 (s.guardDigits 14) true false (s.pmBit 2) (s.pmBit 3)
    (s.fpr r1).toNat v))

/-- SD (R284). -/
def execSd (r1 x2 b2 : RegNum) (d2 : Disp) (s : State) : Result :=
  s.withFreg r1 (s.withRead (s.ea d2 x2 b2) 8 fun v => s.finishLong r1 (fAdd 14 (s.guardDigits 14) true true (s.pmBit 2) (s.pmBit 3)
    (s.fpr r1).toNat v))

/-- MD (R285). -/
def execMd (r1 x2 b2 : RegNum) (d2 : Disp) (s : State) : Result :=
  s.withFreg r1 (s.withRead (s.ea d2 x2 b2) 8 fun v =>
    s.finishLong r1 (fMulLong (s.guardDigits 14) (s.pmBit 2) (s.fpr r1).toNat v))

/-- DD (R286). -/
def execDd (r1 x2 b2 : RegNum) (d2 : Disp) (s : State) : Result :=
  s.withFreg r1 (s.withRead (s.ea d2 x2 b2) 8 fun v => s.finishLong r1 (fDiv 14 (s.pmBit 2) (s.fpr r1).toNat v))

/-- AW (R287). -/
def execAw (r1 x2 b2 : RegNum) (d2 : Disp) (s : State) : Result :=
  s.withFreg r1 (s.withRead (s.ea d2 x2 b2) 8 fun v => s.finishLong r1 (fAdd 14 (s.guardDigits 14) false false (s.pmBit 2) (s.pmBit 3)
    (s.fpr r1).toNat v))

/-- SW (R288). -/
def execSw (r1 x2 b2 : RegNum) (d2 : Disp) (s : State) : Result :=
  s.withFreg r1 (s.withRead (s.ea d2 x2 b2) 8 fun v => s.finishLong r1 (fAdd 14 (s.guardDigits 14) false true (s.pmBit 2) (s.pmBit 3)
    (s.fpr r1).toNat v))

/-- STE (R289). -/
def execSte (r1 x2 b2 : RegNum) (d2 : Disp) (s : State) : Result :=
  s.withFreg r1 (s.withWrite (s.ea d2 x2 b2) 4 (s.fprShort r1).toNat fun t => t.complete)

/-- LE (R290). -/
def execLe (r1 x2 b2 : RegNum) (d2 : Disp) (s : State) : Result :=
  s.withFreg r1 (s.withRead (s.ea d2 x2 b2) 4 fun v => (s.setFprShort r1 (BitVec.ofNat 32 v)).complete)

/-- CE (R291). -/
def execCe (r1 x2 b2 : RegNum) (d2 : Disp) (s : State) : Result :=
  s.withFreg r1 (s.withRead (s.ea d2 x2 b2) 4 fun v =>
    (s.setCC (fCompare 6 (s.guardDigits 6) (s.fprShort r1).toNat v)).complete)

/-- AE (R292). -/
def execAe (r1 x2 b2 : RegNum) (d2 : Disp) (s : State) : Result :=
  s.withFreg r1 (s.withRead (s.ea d2 x2 b2) 4 fun v => s.finishShort r1 (fAdd 6 (s.guardDigits 6) true false (s.pmBit 2) (s.pmBit 3)
    (s.fprShort r1).toNat v))

/-- SE (R293). -/
def execSe (r1 x2 b2 : RegNum) (d2 : Disp) (s : State) : Result :=
  s.withFreg r1 (s.withRead (s.ea d2 x2 b2) 4 fun v => s.finishShort r1 (fAdd 6 (s.guardDigits 6) true true (s.pmBit 2) (s.pmBit 3)
    (s.fprShort r1).toNat v))

/-- ME (R294). -/
def execMe (r1 x2 b2 : RegNum) (d2 : Disp) (s : State) : Result :=
  s.withFreg r1 (s.withRead (s.ea d2 x2 b2) 4 fun v =>
    s.finishLong r1 (fMulShort (s.pmBit 2) (s.fprShort r1).toNat v))

/-- DE (R295). -/
def execDe (r1 x2 b2 : RegNum) (d2 : Disp) (s : State) : Result :=
  s.withFreg r1 (s.withRead (s.ea d2 x2 b2) 4 fun v => s.finishShort r1 (fDiv 6 (s.pmBit 2) (s.fprShort r1).toNat v))

/-- AU (R296). -/
def execAu (r1 x2 b2 : RegNum) (d2 : Disp) (s : State) : Result :=
  s.withFreg r1 (s.withRead (s.ea d2 x2 b2) 4 fun v => s.finishShort r1 (fAdd 6 (s.guardDigits 6) false false (s.pmBit 2) (s.pmBit 3)
    (s.fprShort r1).toNat v))

/-- SU (R297). -/
def execSu (r1 x2 b2 : RegNum) (d2 : Disp) (s : State) : Result :=
  s.withFreg r1 (s.withRead (s.ea d2 x2 b2) 4 fun v => s.finishShort r1 (fAdd 6 (s.guardDigits 6) false true (s.pmBit 2) (s.pmBit 3)
    (s.fprShort r1).toNat v))


end Sys2Proof.Machine
end

