-- ==== Sys2Proof/Machine/DecimalLaws.lean ====
section
/-! DEFINITION. Packed and zoned decimal (46_ss_decimal R390 to R395). -/

namespace Sys2Proof.Machine

/-- A signed decimal number; both zeros exist (R390). -/
structure Dec where
  mag : Nat
  neg : Bool
  deriving DecidableEq, Repr

/-- The integer, -0 giving 0 (R392). -/
def Dec.value (d : Dec) : Int := if d.neg then -(d.mag : Int) else d.mag

/-- The number formed by the lowest `k` half-bytes of `v`, or none if one of them is above 9. -/
def bcdValue : Nat → Nat → Option Nat
  | 0, _ => some 0
  | k + 1, v =>
    if 9 < v % 16 then none
    else match bcdValue k (v / 16) with
      | none => none
      | some t => some (10 * t + v % 16)

/-- The lowest `k` decimal digits of `m`, one half-byte each. -/
def bcdDigits : Nat → Nat → Nat
  | 0, _ => 0
  | k + 1, m => 16 * bcdDigits k (m / 10) + m % 10

/-- A sign half-byte: 0xB and 0xD minus, 0xA, 0xC, 0xE, 0xF plus, 0 to 9 invalid (R390). -/
def signIsMinus (h : Nat) : Bool := h == 0xB || h == 0xD

/-- `DecValue` and `neg` of a packed field of `n` bytes whose value as a number is `v`; none for an invalid digit or
sign (R392). -/
def decParse (n v : Nat) : Option Dec :=
  if v % 16 < 10 then none
  else match bcdValue (2 * n - 1) (v / 16) with
    | none => none
    | some m => some { mag := m, neg := signIsMinus (v % 16) }

/-- The generated sign codes (R390, D16). -/
def signCode (ascii neg : Bool) : Nat :=
  if ascii then (if neg then 0xB else 0xA) else (if neg then 0xD else 0xC)

/-- The packed field of `n` bytes with the `2n - 1` lowest digits of `m` and a generated sign. -/
def decFormat (ascii : Bool) (n m : Nat) (neg : Bool) : Nat := 16 * bcdDigits (2 * n - 1) m + signCode ascii neg

/-- The zone of a zoned digit and of an edited digit (R390, R373). -/
def zoneCode (ascii : Bool) : BitVec 4 := if ascii then 0x5 else 0xF

/-- `ovf` of `DecStore` (R394). -/
def decOverflow (n : Nat) (v : Int) : Bool := decide (10 ^ (2 * n - 1) ≤ v.natAbs)

/-- The bytes `DecStore(addr, n, v)` stores, as a number: minus if `v < 0` and a digit is left or one was lost (R394). -/
def decStored (ascii : Bool) (n : Nat) (v : Int) : Nat :=
  decFormat ascii n (v.natAbs % 10 ^ (2 * n - 1))
    (decide (v < 0) && (decide (v.natAbs % 10 ^ (2 * n - 1) ≠ 0) || decOverflow n v))

/-- `DecCC(v, ovf)` (R395). -/
def decCC (v : Int) (ovf : Bool) : CC := if ovf then 3 else ccOfInt v

/-- The packed operand of `n` bytes at `a`, or what stops its reading: a byte that has no value, an invalid digit or
sign (R392, R68). -/
def State.decAt (s : State) (a : Addr) (n : Nat) : Except Stop Dec :=
  match s.mem.value a n with
  | none => .error .noValue
  | some v =>
    match decParse n v with
    | none => .error .data
    | some d => .ok d

/-- Completed with a decimal result: the first operand and `cc` written, DecimalOverflow if it overflowed and `pm{1}`
is 1 (R394, R395). -/
def State.finishDecimal (s : State) (a : Addr) (n : Nat) (v : Int) : Result :=
  ((s.setMem (s.mem.storeValue a n (decStored s.cfg.asciiMode n v))).setCC (decCC v (decOverflow n v))).completeWith
    (s.masked 1 (decOverflow n v) .decimalOverflow)

end Sys2Proof.Machine
end

