-- ==== Sys2Proof/Machine/RxGeneral.lean ====
section
/-! DEFINITION. The RX instructions of operation codes 40 to 5F (42_rx_general R230 to R257), EX apart. -/

namespace Sys2Proof.Machine

/-- STH (R230). -/
def execSth (r1 x2 b2 : RegNum) (d2 : Disp) (s : State) : Result :=
  s.withWrite (s.ea d2 x2 b2) 2 ((s.gpr r1).extractLsb' 0 16).toNat fun t => t.complete

/-- LA (R231): no storage access. -/
def execLa (r1 x2 b2 : RegNum) (d2 : Disp) (s : State) : Result :=
  (s.setGpr r1 ((s.ea d2 x2 b2).setWidth 32)).complete

/-- STC (R232). -/
def execStc (r1 x2 b2 : RegNum) (d2 : Disp) (s : State) : Result :=
  s.withWrite (s.ea d2 x2 b2) 1 ((s.gpr r1).extractLsb' 0 8).toNat fun t => t.complete

/-- IC (R233): bits 0-23 of the register are unchanged. -/
def execIc (r1 x2 b2 : RegNum) (d2 : Disp) (s : State) : Result :=
  s.withRead (s.ea d2 x2 b2) 1 fun v =>
    (s.setGpr r1 ((s.gpr r1).extractLsb' 8 24 ++ BitVec.ofNat 8 v)).complete

/-- BAL (R235). -/
def execBal (r1 x2 b2 : RegNum) (d2 : Disp) (s : State) : Result :=
  (s.setGpr r1 s.linkWord).branchIf true (s.ea d2 x2 b2)

/-- BCT (R236). -/
def execBct (r1 x2 b2 : RegNum) (d2 : Disp) (s : State) : Result :=
  (s.setGpr r1 (s.gpr r1 - 1)).branchIf (s.gpr r1 - 1 != 0) (s.ea d2 x2 b2)

/-- BC (R237). -/
def execBc (m1 x2 b2 : RegNum) (d2 : Disp) (s : State) : Result :=
  s.branchIf (condTrue m1 s.cc) (s.ea d2 x2 b2)

/-- LH (R238). -/
def execLh (r1 x2 b2 : RegNum) (d2 : Disp) (s : State) : Result :=
  s.withRead (s.ea d2 x2 b2) 2 fun v => (s.setGpr r1 (sext16 v)).complete

/-- CH (R239). -/
def execCh (r1 x2 b2 : RegNum) (d2 : Disp) (s : State) : Result :=
  s.withRead (s.ea d2 x2 b2) 2 fun v => (s.setCC (compareSigned (s.gpr r1) (sext16 v))).complete

/-- AH (R240). -/
def execAh (r1 x2 b2 : RegNum) (d2 : Disp) (s : State) : Result :=
  s.withRead (s.ea d2 x2 b2) 2 fun v => s.finishArith r1 (addSigned (s.gpr r1) (sext16 v))

/-- SH (R241). -/
def execSh (r1 x2 b2 : RegNum) (d2 : Disp) (s : State) : Result :=
  s.withRead (s.ea d2 x2 b2) 2 fun v => s.finishArith r1 (subSigned (s.gpr r1) (sext16 v))

/-- MH (R242): the low-order 32 bits of the product, overflow not detected. -/
def execMh (r1 x2 b2 : RegNum) (d2 : Disp) (s : State) : Result :=
  s.withRead (s.ea d2 x2 b2) 2 fun v =>
    (s.setGpr r1 (BitVec.ofInt 32 ((s.gpr r1).toInt * (sext16 v).toInt))).complete

/-- CVD (R243). -/
def execCvd (r1 x2 b2 : RegNum) (d2 : Disp) (s : State) : Result :=
  s.withWrite (s.ea d2 x2 b2) 8
    (decFormat s.cfg.asciiMode 8 (s.gpr r1).toInt.natAbs (decide ((s.gpr r1).toInt < 0))) fun t => t.complete

/-- CVB (R244): a bad digit or sign suppresses; a value that does not fit is written modulo 2^32, then DivideError. -/
def execCvb (r1 x2 b2 : RegNum) (d2 : Disp) (s : State) : Result :=
  s.withRead (s.ea d2 x2 b2) 8 fun v =>
    match decParse 8 v with
    | none => s.suppress .dataError .none
    | some d =>
      (s.setGpr r1 (BitVec.ofInt 32 d.value)).completeWith
        (if fitsSigned 32 d.value then none else some .divideError)

/-- ST (R245). -/
def execSt (r1 x2 b2 : RegNum) (d2 : Disp) (s : State) : Result :=
  s.withWrite (s.ea d2 x2 b2) 4 (s.gpr r1).toNat fun t => t.complete

/-- N (R246). -/
def execN (r1 x2 b2 : RegNum) (d2 : Disp) (s : State) : Result :=
  s.withRead (s.ea d2 x2 b2) 4 fun v => s.finishLogic r1 (s.gpr r1 &&& BitVec.ofNat 32 v)

/-- O (R248). -/
def execO (r1 x2 b2 : RegNum) (d2 : Disp) (s : State) : Result :=
  s.withRead (s.ea d2 x2 b2) 4 fun v => s.finishLogic r1 (s.gpr r1 ||| BitVec.ofNat 32 v)

/-- X (R249). -/
def execX (r1 x2 b2 : RegNum) (d2 : Disp) (s : State) : Result :=
  s.withRead (s.ea d2 x2 b2) 4 fun v => s.finishLogic r1 (s.gpr r1 ^^^ BitVec.ofNat 32 v)

/-- CL (R247). -/
def execCl (r1 x2 b2 : RegNum) (d2 : Disp) (s : State) : Result :=
  s.withRead (s.ea d2 x2 b2) 4 fun v => (s.setCC (compareLogical (s.gpr r1).toNat v)).complete

/-- L (R250). -/
def execL (r1 x2 b2 : RegNum) (d2 : Disp) (s : State) : Result :=
  s.withRead (s.ea d2 x2 b2) 4 fun v => (s.setGpr r1 (BitVec.ofNat 32 v)).complete

/-- C (R251). -/
def execC (r1 x2 b2 : RegNum) (d2 : Disp) (s : State) : Result :=
  s.withRead (s.ea d2 x2 b2) 4 fun v => (s.setCC (compareSigned (s.gpr r1) (BitVec.ofNat 32 v))).complete

/-- A (R252). -/
def execA (r1 x2 b2 : RegNum) (d2 : Disp) (s : State) : Result :=
  s.withRead (s.ea d2 x2 b2) 4 fun v => s.finishArith r1 (addSigned (s.gpr r1) (BitVec.ofNat 32 v))

/-- S (R253). -/
def execS (r1 x2 b2 : RegNum) (d2 : Disp) (s : State) : Result :=
  s.withRead (s.ea d2 x2 b2) 4 fun v => s.finishArith r1 (subSigned (s.gpr r1) (BitVec.ofNat 32 v))

/-- AL (R256). -/
def execAl (r1 x2 b2 : RegNum) (d2 : Disp) (s : State) : Result :=
  s.withRead (s.ea d2 x2 b2) 4 fun v => s.finishArith r1 (addLogical (s.gpr r1) (BitVec.ofNat 32 v))

/-- SL (R257). -/
def execSl (r1 x2 b2 : RegNum) (d2 : Disp) (s : State) : Result :=
  s.withRead (s.ea d2 x2 b2) 4 fun v => s.finishArith r1 (subLogical (s.gpr r1) (BitVec.ofNat 32 v))

/-- M (R254). -/
def execM (r1 x2 b2 : RegNum) (d2 : Disp) (s : State) : Result :=
  s.withEven r1 (s.withRead (s.ea d2 x2 b2) 4 fun v =>
    (s.setPair r1 (mulSigned (s.gpr (r1 + 1)) (BitVec.ofNat 32 v))).complete)

/-- D (R255). -/
def execD (r1 x2 b2 : RegNum) (d2 : Disp) (s : State) : Result :=
  s.withEven r1 (s.withRead (s.ea d2 x2 b2) 4 fun v =>
    s.finishDivide r1 (divSigned (s.pair r1) (BitVec.ofNat 32 v)))


end Sys2Proof.Machine
end

