-- ==== Sys2Proof/Machine/SsDecimal.lean ====
section
/-! DEFINITION. The SS instructions of two length fields, operation codes E0 to FF (46_ss_decimal R390 to R408). -/

namespace Sys2Proof.Machine

/-- The number of bytes a 4-bit length field names (R391). -/
def decLength (l : RegNum) : Nat := l.toNat + 1

/-- `S(j)`: the source byte `j` places left of the rightmost, and 00 beyond the field (R400); none if it has no value. -/
def sourceByte (m : Memory) (a2 : Addr) (l2 j : Nat) : Option Byte :=
  if j ≤ l2 then m.read (addrPlus a2 (l2 - j)) else some 0

/-- `k` steps of MVO from step `j` on; `prev` is the source byte fetched at step `j - 1`, which step `j` does not fetch
again (R400; DEDUCED, log 10). -/
def moveOffset (a1 : Addr) (l1 : Nat) (a2 : Addr) (l2 : Nat) : Nat → Nat → Byte → Memory → Option Memory
  | 0, _, _, m => some m
  | k + 1, j, prev, m =>
    match sourceByte m a2 l2 j with
    | none => none
    | some b => moveOffset a1 l1 a2 l2 k (j + 1) b (m.write (addrPlus a1 (l1 - j)) (loNibble b ++ hiNibble prev))

/-- `k` steps of PACK from step `j` on (R401). -/
def packBytes (a1 : Addr) (l1 : Nat) (a2 : Addr) (l2 : Nat) : Nat → Nat → Memory → Option Memory
  | 0, _, m => some m
  | k + 1, j, m =>
    match sourceByte m a2 l2 (2 * j), sourceByte m a2 l2 (2 * j - 1) with
    | some hi, some lo =>
      packBytes a1 l1 a2 l2 k (j + 1) (m.write (addrPlus a1 (l1 - j)) (loNibble hi ++ loNibble lo))
    | _, _ => none

/-- The digit UNPK takes at step `k` (R402). At an even step the byte `S(k / 2)`, which step `k - 1` fetched for its right
half, is fetched AGAIN, after the store of step `k - 1`: the model's choice (DEDUCED, log 10), since R402 takes `S(j)` "as
in MVO", "fetched at step j", and R393 lets each step fetch the source bytes it needs. It matters only where that store
falls on the byte. -/
def unpackDigit (m : Memory) (a2 : Addr) (l2 k : Nat) : Option (BitVec 4) :=
  if k % 2 = 1 then (sourceByte m a2 l2 ((k + 1) / 2)).map loNibble else (sourceByte m a2 l2 (k / 2)).map hiNibble

/-- `n` steps of UNPK from step `k` on (R402; log 10). -/
def unpackBytes (zone : BitVec 4) (a1 : Addr) (l1 : Nat) (a2 : Addr) (l2 : Nat) : Nat → Nat → Memory → Option Memory
  | 0, _, m => some m
  | n + 1, k, m =>
    match unpackDigit m a2 l2 k with
    | none => none
    | some d => unpackBytes zone a1 l1 a2 l2 n (k + 1) (m.write (addrPlus a1 (l1 - k)) (zone ++ d))

/-- The leftmost bytes of the source that MVO, PACK and UNPK do not need are not accessed: the first needed byte and
how many there are, `used + 1` (R393; log 10). -/
def neededField (a2 : Addr) (l2 used : Nat) : Addr × Nat := (addrPlus a2 (l2 - min used l2), min used l2 + 1)

/-- The half-bytes of a byte exchanged (R401, R402). -/
def swapHalves (b : Byte) : Byte := loNibble b ++ hiNibble b

/-- The common form of MVO, PACK and UNPK: `used` is the leftmost `j` for which the byte `S(j)` is needed, and `m` the
storage after the move, or none if a byte it reads has no value (R393, R400 to R402). -/
def State.moveDecimal (s : State) (a1 : Addr) (l1 : Nat) (a2 : Addr) (l2 used : Nat) (m : Option Memory) : Result :=
  (s.freeBytes a1 (l1 + 1)).withStorage
    (match s.fieldFault a1 (l1 + 1) (neededField a2 l2 used).1 (neededField a2 l2 used).2 true with
    | some c => .error (.address c)
    | none => givenOr m)
    fun m => (s.setMem m).complete

/-- Step 0 of PACK and UNPK: the rightmost source byte with its halves exchanged (R401, R402). -/
def swapStep (m : Memory) (a1 : Addr) (l1 : Nat) (a2 : Addr) (l2 : Nat) : Option Memory :=
  (sourceByte m a2 l2 0).map fun b => m.write (addrPlus a1 l1) (swapHalves b)

/-- MVO (R400): step 0 reads the rightmost byte of the first operand too. -/
def execMvo (l1 l2 b1 : RegNum) (d1 : Disp) (b2 : RegNum) (d2 : Disp) (s : State) : Result :=
  let e1 := addrPlus (s.eab d1 b1) l1.toNat
  s.moveDecimal (s.eab d1 b1) l1.toNat (s.eab d2 b2) l2.toNat l1.toNat
    (match s.mem.read e1, sourceByte s.mem (s.eab d2 b2) l2.toNat 0 with
    | some t, some s0 =>
      moveOffset (s.eab d1 b1) l1.toNat (s.eab d2 b2) l2.toNat l1.toNat 1 s0 (s.mem.write e1 (loNibble s0 ++ loNibble t))
    | _, _ => none)

/-- PACK (R401). -/
def execPack (l1 l2 b1 : RegNum) (d1 : Disp) (b2 : RegNum) (d2 : Disp) (s : State) : Result :=
  s.moveDecimal (s.eab d1 b1) l1.toNat (s.eab d2 b2) l2.toNat (2 * l1.toNat)
    ((swapStep s.mem (s.eab d1 b1) l1.toNat (s.eab d2 b2) l2.toNat).bind
      (packBytes (s.eab d1 b1) l1.toNat (s.eab d2 b2) l2.toNat l1.toNat 1))

/-- UNPK (R402). -/
def execUnpk (l1 l2 b1 : RegNum) (d1 : Disp) (b2 : RegNum) (d2 : Disp) (s : State) : Result :=
  s.moveDecimal (s.eab d1 b1) l1.toNat (s.eab d2 b2) l2.toNat ((l1.toNat + 1) / 2)
    ((swapStep s.mem (s.eab d1 b1) l1.toNat (s.eab d2 b2) l2.toNat).bind
      (unpackBytes (zoneCode s.cfg.asciiMode) (s.eab d1 b1) l1.toNat (s.eab d2 b2) l2.toNat l1.toNat 1))

/-- Access checks of a decimal instruction that stores its first operand; `k` runs if they pass (R393, R396). -/
def State.withFields (s : State) (a1 : Addr) (n1 : Nat) (a2 : Addr) (n2 : Nat) (freed : State) (k : Result) : Result :=
  match s.fieldFault a1 n1 a2 n2 true with
  | some c => accessTerminated freed c
  | none => k

/-- `DecValue` of the `n` bytes at `a` goes to `k`; an invalid digit or sign terminates with DataError (R392, R396). -/
def State.withDecimal (s : State) (a : Addr) (n : Nat) (freed : State) (k : Dec → Result) : Result :=
  match s.decAt a n with
  | .error stop => terminateBy freed stop
  | .ok d => k d

/-- Some byte of the result lies inside the second operand but its rightmost does not lie to the right of, or at, the
second operand's rightmost byte: the overlap for which ZAP is not determined (R393, D26; log 9). -/
def zapOverlap (e1 a2 : Addr) (n2 : Nat) : Bool := decide ((e1 - a2).toNat + 1 < n2)

/-- ZAP (R403); an overlap the spec leaves open frees the first operand and `cc` (D26; log 9). -/
def execZap (l1 l2 b1 : RegNum) (d1 : Disp) (b2 : RegNum) (d2 : Disp) (s : State) : Result :=
  let a1 := s.eab d1 b1
  let n1 := decLength l1
  s.withFields a1 n1 (s.eab d2 b2) (decLength l2) (s.freeBytes a1 n1).freeCC
    (s.withDecimal (s.eab d2 b2) (decLength l2) (s.freeBytes a1 n1).freeCC fun d =>
      if zapOverlap (addrPlus a1 l1.toNat) (s.eab d2 b2) (decLength l2) then
        (s.freeBytes a1 n1).freeCC.completeWith (s.masked 1 (decOverflow n1 d.value) .decimalOverflow)
      else s.finishDecimal a1 n1 d.value)

/-- CP (R404): storage is unchanged, so a termination leaves `cc` alone holding any value. -/
def execCp (l1 l2 b1 : RegNum) (d1 : Disp) (b2 : RegNum) (d2 : Disp) (s : State) : Result :=
  match s.fieldFault (s.eab d1 b1) (decLength l1) (s.eab d2 b2) (decLength l2) false with
  | some c => accessTerminated s.freeCC c
  | none =>
    s.withDecimal (s.eab d1 b1) (decLength l1) s.freeCC fun v1 =>
      s.withDecimal (s.eab d2 b2) (decLength l2) s.freeCC fun v2 =>
        (s.setCC (compareInt v1.value v2.value)).complete

/-- AP and SP: the exact result of `op` on the two operands (R405, R406). -/
def State.addDecimal (s : State) (a1 : Addr) (n1 : Nat) (a2 : Addr) (n2 : Nat) (op : Int → Int → Int) : Result :=
  s.withFields a1 n1 a2 n2 (s.freeBytes a1 n1).freeCC
    (s.withDecimal a1 n1 (s.freeBytes a1 n1).freeCC fun v1 =>
      s.withDecimal a2 n2 (s.freeBytes a1 n1).freeCC fun v2 => s.finishDecimal a1 n1 (op v1.value v2.value))

/-- AP (R405). -/
def execAp (l1 l2 b1 : RegNum) (d1 : Disp) (b2 : RegNum) (d2 : Disp) (s : State) : Result :=
  s.addDecimal (s.eab d1 b1) (decLength l1) (s.eab d2 b2) (decLength l2) fun v1 v2 => v1 + v2

/-- SP (R406). -/
def execSp (l1 l2 b1 : RegNum) (d1 : Disp) (b2 : RegNum) (d2 : Disp) (s : State) : Result :=
  s.addDecimal (s.eab d1 b1) (decLength l1) (s.eab d2 b2) (decLength l2) fun v1 v2 => v1 - v2

/-- The length rule of MP and DP (R407, R408): `L2 > 7` or `L2 >= L1` is suppressed with
AddressError(specification). -/
def State.withLengths (s : State) (l1 l2 : RegNum) (k : Result) : Result :=
  if 7 < l2.toNat ∨ l1.toNat ≤ l2.toNat then s.addressFault .specification else k

/-- MP and DP: the length rule, the access checks and both operands (R407, R408). -/
def State.withFactors (s : State) (l1 l2 : RegNum) (a1 a2 : Addr) (k : Dec → Dec → Result) : Result :=
  let freed := s.freeBytes a1 (decLength l1)
  s.withLengths l1 l2 (s.withFields a1 (decLength l1) a2 (decLength l2) freed
    (s.withDecimal a1 (decLength l1) freed fun v1 => s.withDecimal a2 (decLength l2) freed fun v2 => k v1 v2))

/-- MP (R407). -/
def execMp (l1 l2 b1 : RegNum) (d1 : Disp) (b2 : RegNum) (d2 : Disp) (s : State) : Result :=
  let a1 := s.eab d1 b1
  let n1 := decLength l1
  s.withFactors l1 l2 a1 (s.eab d2 b2) fun v1 v2 =>
    if s.mem.value a1 (decLength l2) = some 0 then
      (s.setMem (s.mem.storeValue a1 n1
        (decFormat s.cfg.asciiMode n1 (v1.mag * v2.mag) (xor v1.neg v2.neg)))).complete
    else terminate (s.freeBytes a1 n1) .dataError .none

/-- DP (R408): quotient left, remainder right; the signs follow the rules even for zero. -/
def execDp (l1 l2 b1 : RegNum) (d1 : Disp) (b2 : RegNum) (d2 : Disp) (s : State) : Result :=
  let a1 := s.eab d1 b1
  let n1 := decLength l1
  let n2 := decLength l2
  s.withFactors l1 l2 a1 (s.eab d2 b2) fun v1 v2 =>
    if v2.mag = 0 ∨ 10 ^ (2 * (n1 - n2) - 1) ≤ v1.mag / v2.mag then s.suppress .divideError .none
    else
      (s.setMem ((s.mem.storeValue a1 (n1 - n2)
          (decFormat s.cfg.asciiMode (n1 - n2) (v1.mag / v2.mag) (xor v1.neg v2.neg))).storeValue
        (addrPlus a1 (n1 - n2)) n2 (decFormat s.cfg.asciiMode n2 (v1.mag % v2.mag) v1.neg))).complete

end Sys2Proof.Machine
end

