-- ==== Sys2Proof/Machine/SsLogical.lean ====
section
/-! DEFINITION. The SS instructions of one length field, operation codes D0 to DF (45_ss_logical R360 to R375). -/

namespace Sys2Proof.Machine

/-- SSP (R360), privileged; the spec gives it no semantics and refuses it (R4 (1), D18; log 16). -/
def execSsp (_l : Byte) (_b1 : RegNum) (_d1 : Disp) (_b2 : RegNum) (_d2 : Disp) (s : State) : Result :=
  s.privileged (.refused (.noSemanticsInSource "SSP"))

/-- LSP (R368), privileged; the spec gives it no semantics and refuses it (R4 (1), D18; log 16). -/
def execLsp (_l : Byte) (_b1 : RegNum) (_d1 : Disp) (_b2 : RegNum) (_d2 : Disp) (s : State) : Result :=
  s.privileged (.refused (.noSemanticsInSource "LSP"))

/-- The number of bytes an 8-bit length field names, L + 1 (R374). -/
def fieldLength (l : Byte) : Nat := l.toNat + 1

/-- `n` bytes of the first operand replaced, left to right, each by `f` of itself and of the second operand's byte,
stored before the next is fetched (R375); `f` is given a first-operand byte that has no value as none. None if a byte
that is read has no value (R68). -/
def combineBytes (f : Option Byte → Byte → Option Byte) : Nat → Memory → Addr → Addr → Option Memory
  | 0, m, _, _ => some m
  | n + 1, m, a1, a2 =>
    match (m.read a2).bind (f (m.read a1)) with
    | none => none
    | some b => combineBytes f n (m.write a1 b) (a1 + 1) (a2 + 1)

/-- The byte functions that read both operands. -/
def ofBoth (f : Byte → Byte → Byte) (t : Option Byte) (b : Byte) : Option Byte := t.map fun t => f t b

/-- Storage after a byte-by-byte field instruction, or what stops it: the address conditions come first (R375, R428). -/
def State.combineFields (s : State) (n : Nat) (a1 a2 : Addr) (f : Option Byte → Byte → Option Byte) :
    Except Stop Memory :=
  match s.fieldFault a1 n a2 n true with
  | some c => .error (.address c)
  | none => givenOr (combineBytes f n s.mem a1 a2)

/-- The moves MVN, MVC, MVZ (R361 to R363): no code is set. -/
def State.moveFields (s : State) (n : Nat) (a1 a2 : Addr) (f : Option Byte → Byte → Option Byte) : Result :=
  (s.freeBytes a1 n).withStorage (s.combineFields n a1 a2 f) fun m => (s.setMem m).complete

/-- NC, OC, XC (R364, R366, R367): the code is 0 if every result byte is zero, else 1. -/
def State.logicFields (s : State) (n : Nat) (a1 a2 : Addr) (f : Byte → Byte → Byte) : Result :=
  (s.freeBytes a1 n).freeCC.withStorage (s.combineFields n a1 a2 (ofBoth f)) fun m =>
    ((s.setMem m).setCC (if m.value a1 n = some 0 then 0 else 1)).complete

/-- MVN (R361): the numerics move. -/
def execMvn (l : Byte) (b1 : RegNum) (d1 : Disp) (b2 : RegNum) (d2 : Disp) (s : State) : Result :=
  s.moveFields (fieldLength l) (s.eab d1 b1) (s.eab d2 b2) (ofBoth fun t b => hiNibble t ++ loNibble b)

/-- MVC (R362): the first operand is not read. -/
def execMvc (l : Byte) (b1 : RegNum) (d1 : Disp) (b2 : RegNum) (d2 : Disp) (s : State) : Result :=
  s.moveFields (fieldLength l) (s.eab d1 b1) (s.eab d2 b2) fun _ b => some b

/-- MVZ (R363): the zones move. -/
def execMvz (l : Byte) (b1 : RegNum) (d1 : Disp) (b2 : RegNum) (d2 : Disp) (s : State) : Result :=
  s.moveFields (fieldLength l) (s.eab d1 b1) (s.eab d2 b2) (ofBoth fun t b => hiNibble b ++ loNibble t)

/-- NC (R364). -/
def execNc (l : Byte) (b1 : RegNum) (d1 : Disp) (b2 : RegNum) (d2 : Disp) (s : State) : Result :=
  s.logicFields (fieldLength l) (s.eab d1 b1) (s.eab d2 b2) fun t b => t &&& b

/-- OC (R366). -/
def execOc (l : Byte) (b1 : RegNum) (d1 : Disp) (b2 : RegNum) (d2 : Disp) (s : State) : Result :=
  s.logicFields (fieldLength l) (s.eab d1 b1) (s.eab d2 b2) fun t b => t ||| b

/-- XC (R367). -/
def execXc (l : Byte) (b1 : RegNum) (d1 : Disp) (b2 : RegNum) (d2 : Disp) (s : State) : Result :=
  s.logicFields (fieldLength l) (s.eab d1 b1) (s.eab d2 b2) fun t b => t ^^^ b

/-- CLC (R365): all bytes of both operands are read (U8; log 21). -/
def execClc (l : Byte) (b1 : RegNum) (d1 : Disp) (b2 : RegNum) (d2 : Disp) (s : State) : Result :=
  match s.fieldFault (s.eab d1 b1) (fieldLength l) (s.eab d2 b2) (fieldLength l) false with
  | some c => accessTerminated s.freeCC c
  | none =>
    s.withValue (s.eab d1 b1) (fieldLength l) fun v1 => s.withValue (s.eab d2 b2) (fieldLength l) fun v2 =>
      (s.setCC (compareLogical v1 v2)).complete

/-- The table byte an argument byte indexes (R369). -/
def tableAddr (a2 : Addr) (arg : Byte) : Addr := a2 + arg.setWidth 24

/-- The table byte for the argument byte at `a1`, or what stops the access: a table byte outside storage, a byte that
has no value (R369, R370). -/
def tableByte (memSize : Nat) (m : Memory) (a1 a2 : Addr) : Except Stop Byte :=
  match m.read a1 with
  | none => .error .noValue
  | some arg =>
    if memSize ≤ (tableAddr a2 arg).toNat then .error (.address .addressing) else givenOr (m.read (tableAddr a2 arg))

/-- TR over `n` argument bytes from `a1` on (R369). -/
def translateBytes (memSize : Nat) (a2 : Addr) : Nat → Memory → Addr → Except Stop Memory
  | 0, m, _ => .ok m
  | n + 1, m, a1 =>
    match tableByte memSize m a1 a2 with
    | .error stop => .error stop
    | .ok b => translateBytes memSize a2 n (m.write a1 b) (a1 + 1)

/-- Storage after the translation of the `n` bytes at `a1`, or what stops it; the order of the checks is log 11. -/
def State.translate (s : State) (n : Nat) (a1 a2 : Addr) : Except Stop Memory :=
  if s.inStorage a1 n = false then .error (.address .addressing)
  else match translateBytes s.cfg.memSize a2 n s.mem a1 with
    | .error stop => .error (stop.afterProtection (!s.storeAllowed a1 n))
    | .ok m => if s.storeAllowed a1 n then .ok m else .error (.address .protect)

/-- TR (R369). -/
def execTr (l : Byte) (b1 : RegNum) (d1 : Disp) (b2 : RegNum) (d2 : Disp) (s : State) : Result :=
  (s.freeBytes (s.eab d1 b1) (fieldLength l)).withStorage (s.translate (fieldLength l) (s.eab d1 b1) (s.eab d2 b2))
    fun m => (s.setMem m).complete

/-- What the scan of TRT finds. -/
inductive TestScan where
  | stopped (stop : Stop)
  | found (at_ : Addr) (function : Byte) (last : Bool)
  | allZero
  deriving DecidableEq, Repr

/-- The scan of `n` argument bytes from `a1` on; it stops at the first non-zero function byte, and only the bytes up to
there are accessed (R370). -/
def State.scanFunction (s : State) (a2 : Addr) : Nat → Addr → TestScan
  | 0, _ => .allZero
  | n + 1, a1 =>
    if s.cfg.memSize ≤ a1.toNat then .stopped (.address .addressing)
    else match tableByte s.cfg.memSize s.mem a1 a2 with
      | .error stop => .stopped stop
      | .ok fb => if fb = 0 then s.scanFunction a2 n (a1 + 1) else .found a1 fb (n == 0)

/-- `x[r]{8-31} <- a`, bits 0-7 unchanged (R370, R372). -/
def State.setGprAddr (s : State) (r : RegNum) (a : Addr) : State :=
  s.setGpr r ((s.gpr r).extractLsb' 24 8 ++ a)

/-- TRT (R370); on a fault bits 8-31 of register 1, bits 24-31 of register 2 and `cc` hold any value (log 8). -/
def execTrt (l : Byte) (b1 : RegNum) (d1 : Disp) (b2 : RegNum) (d2 : Disp) (s : State) : Result :=
  match s.scanFunction (s.eab d2 b2) (fieldLength l) (s.eab d1 b1) with
  | .stopped stop => terminateBy ((s.freeGprLow 1 24).freeGprLow 2 8).freeCC stop
  | .allZero => (s.setCC 0).complete
  | .found a fb last =>
    (((s.setGprAddr 1 a).setGpr 2 ((s.gpr 2).extractLsb' 8 24 ++ fb)).setCC (if last then 2 else 1)).complete

/-- The variables of the edit algorithm (R373), with storage and the address EDMK has marked. -/
structure Edit where
  /-- storage -/
  mem : Memory
  /-- the significance indicator S -/
  sig : Bool
  /-- a non-zero digit seen in the current field -/
  nz : Bool
  /-- the address of the next source byte -/
  src : Addr
  /-- the next source digit is the left half -/
  left : Bool
  /-- the fill character -/
  fill : Byte
  /-- the last address at which a non-zero digit turned significance on, for EDMK -/
  mark : Option Addr
  /-- a byte stored so far lies in a protected block (log 11) -/
  blocked : Bool
  deriving DecidableEq, Repr

/-- A result byte stored at `a` (R373). -/
def Edit.store (e : Edit) (s : State) (a : Addr) (b : Byte) : Edit :=
  { e with mem := e.mem.write a b, blocked := e.blocked || !s.storeAllowedAt a }

/-- A digit-select or significance-start byte `p` at `a`, the source digit being `d` in the byte `sb` (R373). -/
def Edit.digit (e : Edit) (s : State) (a : Addr) (p sb : Byte) (d : BitVec 4) : Edit :=
  let r := loNibble sb
  let plus := e.left && (r == 0xA || r == 0xC || r == 0xE || r == 0xF)
  let consumed := !e.left || decide (9 < r.toNat)
  { e.store s a (if d != 0 || e.sig then zoneCode s.cfg.asciiMode ++ d else e.fill) with
    sig := (e.sig || d != 0 || p == 0x21) && !plus
    nz := e.nz || d != 0
    src := if consumed then e.src + 1 else e.src
    left := consumed
    mark := if d != 0 && !e.sig then some a else e.mark }

/-- The source byte of a digit byte, or what stops the access: it lies outside storage or has no value; its left
half-byte, where that is the next digit, is above 9 (R373). -/
def Edit.sourceByte (e : Edit) (s : State) : Except Stop Byte :=
  if s.cfg.memSize ≤ e.src.toNat then .error (.address .addressing)
  else match e.mem.read e.src with
    | none => .error .noValue
    | some sb => if e.left = true ∧ 9 < (hiNibble sb).toNat then .error .data else .ok sb

/-- One pattern byte at `a` (R373). -/
def Edit.step (e : Edit) (s : State) (a : Addr) : Except Stop Edit :=
  match e.mem.read a with
  | none => .error .noValue
  | some p =>
    if p = 0x20 ∨ p = 0x21 then
      match e.sourceByte s with
      | .error stop => .error stop
      | .ok sb => .ok (e.digit s a p sb (if e.left then hiNibble sb else loNibble sb))
    else if p = 0x22 then .ok { e.store s a e.fill with sig := false, nz := false }
    else if e.sig then .ok e
    else .ok (e.store s a e.fill)

/-- The pattern bytes from `a` on, left to right (R373). Where invalid data or a byte that has no value stops the edit,
a protected byte comes first, be it one stored before or one of the pattern bytes not yet edited (R428 (7), (8);
log 11). -/
def Edit.run (s : State) : Nat → Addr → Edit → Except Stop Edit
  | 0, _, e => if e.blocked then .error (.address .protect) else .ok e
  | n + 1, a, e =>
    match e.step s a with
    | .error stop => .error (stop.afterProtection (e.blocked || !s.storeAllowed a (n + 1)))
    | .ok e' => Edit.run s n (a + 1) e'

/-- The variables before the first pattern byte, which is the fill character (R373). -/
def State.editStart (s : State) (fill : Byte) (a2 : Addr) : Edit :=
  { mem := s.mem, sig := false, nz := false, src := a2, left := true, fill := fill, mark := none, blocked := false }

/-- The whole edit of `n` pattern bytes at `a1` from the source at `a2` (R373). -/
def State.edit (s : State) (n : Nat) (a1 a2 : Addr) : Except Stop Edit :=
  if s.inStorage a1 n = false then .error (.address .addressing)
  else match s.byteAt a1 with
    | none => .error (Stop.noValue.afterProtection (!s.storeAllowed a1 n))
    | some fill => Edit.run s n a1 (s.editStart fill a2)

/-- The code after an edit: of the last field only (R373). -/
def Edit.code (e : Edit) : CC := if e.nz = false then 0 else if e.sig then 1 else 2

/-- ED (R371, R373). -/
def execEd (l : Byte) (b1 : RegNum) (d1 : Disp) (b2 : RegNum) (d2 : Disp) (s : State) : Result :=
  match s.edit (fieldLength l) (s.eab d1 b1) (s.eab d2 b2) with
  | .error stop => terminateBy (s.freeBytes (s.eab d1 b1) (fieldLength l)).freeCC stop
  | .ok e => ((s.setMem e.mem).setCC e.code).complete

/-- EDMK (R372, R373): register 1 is marked only where a non-zero digit turns significance on. -/
def execEdmk (l : Byte) (b1 : RegNum) (d1 : Disp) (b2 : RegNum) (d2 : Disp) (s : State) : Result :=
  match s.edit (fieldLength l) (s.eab d1 b1) (s.eab d2 b2) with
  | .error stop => terminateBy ((s.freeBytes (s.eab d1 b1) (fieldLength l)).freeGprLow 1 24).freeCC stop
  | .ok e =>
    (((match e.mark with
      | none => s
      | some a => s.setGprAddr 1 a).setMem e.mem).setCC e.code).complete

end Sys2Proof.Machine
end

