-- ==== Sys2Proof/Machine/Dispatch.lean ====
section
/-! DEFINITION. One arm per instruction, each one call of its meaning. -/

namespace Sys2Proof.Machine

def exec (i : Instr) (s : State) : Host.Outcome State Fault Refusal :=
  match i with
  | .spm r1 => Sys2Proof.Machine.execSpm r1 s
  | .balr r1 r2 => Sys2Proof.Machine.execBalr r1 r2 s
  | .bctr r1 r2 => Sys2Proof.Machine.execBctr r1 r2 s
  | .bcr m1 r2 => Sys2Proof.Machine.execBcr m1 r2 s
  | .ssk r1 r2 => Sys2Proof.Machine.execSsk r1 r2 s
  | .isk r1 r2 => Sys2Proof.Machine.execIsk r1 r2 s
  | .svc code => Sys2Proof.Machine.execSvc code s
  | .lpr r1 r2 => Sys2Proof.Machine.execLpr r1 r2 s
  | .lnr r1 r2 => Sys2Proof.Machine.execLnr r1 r2 s
  | .ltr r1 r2 => Sys2Proof.Machine.execLtr r1 r2 s
  | .lcr r1 r2 => Sys2Proof.Machine.execLcr r1 r2 s
  | .nr r1 r2 => Sys2Proof.Machine.execNr r1 r2 s
  | .clr r1 r2 => Sys2Proof.Machine.execClr r1 r2 s
  | .or r1 r2 => Sys2Proof.Machine.execOr r1 r2 s
  | .xr r1 r2 => Sys2Proof.Machine.execXr r1 r2 s
  | .lr r1 r2 => Sys2Proof.Machine.execLr r1 r2 s
  | .cr r1 r2 => Sys2Proof.Machine.execCr r1 r2 s
  | .ar r1 r2 => Sys2Proof.Machine.execAr r1 r2 s
  | .sr r1 r2 => Sys2Proof.Machine.execSr r1 r2 s
  | .mr r1 r2 => Sys2Proof.Machine.execMr r1 r2 s
  | .dr r1 r2 => Sys2Proof.Machine.execDr r1 r2 s
  | .alr r1 r2 => Sys2Proof.Machine.execAlr r1 r2 s
  | .slr r1 r2 => Sys2Proof.Machine.execSlr r1 r2 s
  | .lpdr r1 r2 => Sys2Proof.Machine.execLpdr r1 r2 s
  | .lndr r1 r2 => Sys2Proof.Machine.execLndr r1 r2 s
  | .ltdr r1 r2 => Sys2Proof.Machine.execLtdr r1 r2 s
  | .lcdr r1 r2 => Sys2Proof.Machine.execLcdr r1 r2 s
  | .hdr r1 r2 => Sys2Proof.Machine.execHdr r1 r2 s
  | .ldr r1 r2 => Sys2Proof.Machine.execLdr r1 r2 s
  | .cdr r1 r2 => Sys2Proof.Machine.execCdr r1 r2 s
  | .adr r1 r2 => Sys2Proof.Machine.execAdr r1 r2 s
  | .sdr r1 r2 => Sys2Proof.Machine.execSdr r1 r2 s
  | .mdr r1 r2 => Sys2Proof.Machine.execMdr r1 r2 s
  | .ddr r1 r2 => Sys2Proof.Machine.execDdr r1 r2 s
  | .awr r1 r2 => Sys2Proof.Machine.execAwr r1 r2 s
  | .swr r1 r2 => Sys2Proof.Machine.execSwr r1 r2 s
  | .lper r1 r2 => Sys2Proof.Machine.execLper r1 r2 s
  | .lner r1 r2 => Sys2Proof.Machine.execLner r1 r2 s
  | .lter r1 r2 => Sys2Proof.Machine.execLter r1 r2 s
  | .lcer r1 r2 => Sys2Proof.Machine.execLcer r1 r2 s
  | .her r1 r2 => Sys2Proof.Machine.execHer r1 r2 s
  | .ler r1 r2 => Sys2Proof.Machine.execLer r1 r2 s
  | .cer r1 r2 => Sys2Proof.Machine.execCer r1 r2 s
  | .aer r1 r2 => Sys2Proof.Machine.execAer r1 r2 s
  | .ser r1 r2 => Sys2Proof.Machine.execSer r1 r2 s
  | .mer r1 r2 => Sys2Proof.Machine.execMer r1 r2 s
  | .der r1 r2 => Sys2Proof.Machine.execDer r1 r2 s
  | .aur r1 r2 => Sys2Proof.Machine.execAur r1 r2 s
  | .sur r1 r2 => Sys2Proof.Machine.execSur r1 r2 s
  | .sth r1 x2 b2 d2 => Sys2Proof.Machine.execSth r1 x2 b2 d2 s
  | .la r1 x2 b2 d2 => Sys2Proof.Machine.execLa r1 x2 b2 d2 s
  | .stc r1 x2 b2 d2 => Sys2Proof.Machine.execStc r1 x2 b2 d2 s
  | .ic r1 x2 b2 d2 => Sys2Proof.Machine.execIc r1 x2 b2 d2 s
  | .ex r1 x2 b2 d2 => Sys2Proof.Machine.execEx r1 x2 b2 d2 s
  | .bal r1 x2 b2 d2 => Sys2Proof.Machine.execBal r1 x2 b2 d2 s
  | .bct r1 x2 b2 d2 => Sys2Proof.Machine.execBct r1 x2 b2 d2 s
  | .bc m1 x2 b2 d2 => Sys2Proof.Machine.execBc m1 x2 b2 d2 s
  | .lh r1 x2 b2 d2 => Sys2Proof.Machine.execLh r1 x2 b2 d2 s
  | .ch r1 x2 b2 d2 => Sys2Proof.Machine.execCh r1 x2 b2 d2 s
  | .ah r1 x2 b2 d2 => Sys2Proof.Machine.execAh r1 x2 b2 d2 s
  | .sh r1 x2 b2 d2 => Sys2Proof.Machine.execSh r1 x2 b2 d2 s
  | .mh r1 x2 b2 d2 => Sys2Proof.Machine.execMh r1 x2 b2 d2 s
  | .cvd r1 x2 b2 d2 => Sys2Proof.Machine.execCvd r1 x2 b2 d2 s
  | .cvb r1 x2 b2 d2 => Sys2Proof.Machine.execCvb r1 x2 b2 d2 s
  | .st r1 x2 b2 d2 => Sys2Proof.Machine.execSt r1 x2 b2 d2 s
  | .n r1 x2 b2 d2 => Sys2Proof.Machine.execN r1 x2 b2 d2 s
  | .cl r1 x2 b2 d2 => Sys2Proof.Machine.execCl r1 x2 b2 d2 s
  | .o r1 x2 b2 d2 => Sys2Proof.Machine.execO r1 x2 b2 d2 s
  | .x r1 x2 b2 d2 => Sys2Proof.Machine.execX r1 x2 b2 d2 s
  | .l r1 x2 b2 d2 => Sys2Proof.Machine.execL r1 x2 b2 d2 s
  | .c r1 x2 b2 d2 => Sys2Proof.Machine.execC r1 x2 b2 d2 s
  | .a r1 x2 b2 d2 => Sys2Proof.Machine.execA r1 x2 b2 d2 s
  | .s r1 x2 b2 d2 => Sys2Proof.Machine.execS r1 x2 b2 d2 s
  | .m r1 x2 b2 d2 => Sys2Proof.Machine.execM r1 x2 b2 d2 s
  | .d r1 x2 b2 d2 => Sys2Proof.Machine.execD r1 x2 b2 d2 s
  | .al r1 x2 b2 d2 => Sys2Proof.Machine.execAl r1 x2 b2 d2 s
  | .sl r1 x2 b2 d2 => Sys2Proof.Machine.execSl r1 x2 b2 d2 s
  | .std r1 x2 b2 d2 => Sys2Proof.Machine.execStd r1 x2 b2 d2 s
  | .ld r1 x2 b2 d2 => Sys2Proof.Machine.execLd r1 x2 b2 d2 s
  | .cd r1 x2 b2 d2 => Sys2Proof.Machine.execCd r1 x2 b2 d2 s
  | .ad r1 x2 b2 d2 => Sys2Proof.Machine.execAd r1 x2 b2 d2 s
  | .sd r1 x2 b2 d2 => Sys2Proof.Machine.execSd r1 x2 b2 d2 s
  | .md r1 x2 b2 d2 => Sys2Proof.Machine.execMd r1 x2 b2 d2 s
  | .dd r1 x2 b2 d2 => Sys2Proof.Machine.execDd r1 x2 b2 d2 s
  | .aw r1 x2 b2 d2 => Sys2Proof.Machine.execAw r1 x2 b2 d2 s
  | .sw r1 x2 b2 d2 => Sys2Proof.Machine.execSw r1 x2 b2 d2 s
  | .ste r1 x2 b2 d2 => Sys2Proof.Machine.execSte r1 x2 b2 d2 s
  | .le r1 x2 b2 d2 => Sys2Proof.Machine.execLe r1 x2 b2 d2 s
  | .ce r1 x2 b2 d2 => Sys2Proof.Machine.execCe r1 x2 b2 d2 s
  | .ae r1 x2 b2 d2 => Sys2Proof.Machine.execAe r1 x2 b2 d2 s
  | .se r1 x2 b2 d2 => Sys2Proof.Machine.execSe r1 x2 b2 d2 s
  | .me r1 x2 b2 d2 => Sys2Proof.Machine.execMe r1 x2 b2 d2 s
  | .de r1 x2 b2 d2 => Sys2Proof.Machine.execDe r1 x2 b2 d2 s
  | .au r1 x2 b2 d2 => Sys2Proof.Machine.execAu r1 x2 b2 d2 s
  | .su r1 x2 b2 d2 => Sys2Proof.Machine.execSu r1 x2 b2 d2 s
  | .idl i2 => Sys2Proof.Machine.execIdl i2 s
  | .pc i2 b1 d1 => Sys2Proof.Machine.execPc i2 b1 d1 s
  | .dig i2 b1 d1 => Sys2Proof.Machine.execDig i2 b1 d1 s
  | .wrd i2 b1 d1 => Sys2Proof.Machine.execWrd i2 b1 d1 s
  | .rdd i2 b1 d1 => Sys2Proof.Machine.execRdd i2 b1 d1 s
  | .bxh r1 r3 b2 d2 => Sys2Proof.Machine.execBxh r1 r3 b2 d2 s
  | .bxle r1 r3 b2 d2 => Sys2Proof.Machine.execBxle r1 r3 b2 d2 s
  | .srl r1 b2 d2 => Sys2Proof.Machine.execSrl r1 b2 d2 s
  | .sll r1 b2 d2 => Sys2Proof.Machine.execSll r1 b2 d2 s
  | .sra r1 b2 d2 => Sys2Proof.Machine.execSra r1 b2 d2 s
  | .sla r1 b2 d2 => Sys2Proof.Machine.execSla r1 b2 d2 s
  | .srdl r1 b2 d2 => Sys2Proof.Machine.execSrdl r1 b2 d2 s
  | .sldl r1 b2 d2 => Sys2Proof.Machine.execSldl r1 b2 d2 s
  | .srda r1 b2 d2 => Sys2Proof.Machine.execSrda r1 b2 d2 s
  | .slda r1 b2 d2 => Sys2Proof.Machine.execSlda r1 b2 d2 s
  | .stm r1 r3 b2 d2 => Sys2Proof.Machine.execStm r1 r3 b2 d2 s
  | .tm i2 b1 d1 => Sys2Proof.Machine.execTm i2 b1 d1 s
  | .mvi i2 b1 d1 => Sys2Proof.Machine.execMvi i2 b1 d1 s
  | .ts b1 d1 => Sys2Proof.Machine.execTs b1 d1 s
  | .ni i2 b1 d1 => Sys2Proof.Machine.execNi i2 b1 d1 s
  | .cli i2 b1 d1 => Sys2Proof.Machine.execCli i2 b1 d1 s
  | .oi i2 b1 d1 => Sys2Proof.Machine.execOi i2 b1 d1 s
  | .xi i2 b1 d1 => Sys2Proof.Machine.execXi i2 b1 d1 s
  | .lm r1 r3 b2 d2 => Sys2Proof.Machine.execLm r1 r3 b2 d2 s
  | .sdv b1 d1 => Sys2Proof.Machine.execSdv b1 d1 s
  | .tdv b1 d1 => Sys2Proof.Machine.execTdv b1 d1 s
  | .hdv b1 d1 => Sys2Proof.Machine.execHdv b1 d1 s
  | .ckc b1 d1 => Sys2Proof.Machine.execCkc b1 d1 s
  | .ssp l b1 d1 b2 d2 => Sys2Proof.Machine.execSsp l b1 d1 b2 d2 s
  | .mvn l b1 d1 b2 d2 => Sys2Proof.Machine.execMvn l b1 d1 b2 d2 s
  | .mvc l b1 d1 b2 d2 => Sys2Proof.Machine.execMvc l b1 d1 b2 d2 s
  | .mvz l b1 d1 b2 d2 => Sys2Proof.Machine.execMvz l b1 d1 b2 d2 s
  | .nc l b1 d1 b2 d2 => Sys2Proof.Machine.execNc l b1 d1 b2 d2 s
  | .clc l b1 d1 b2 d2 => Sys2Proof.Machine.execClc l b1 d1 b2 d2 s
  | .oc l b1 d1 b2 d2 => Sys2Proof.Machine.execOc l b1 d1 b2 d2 s
  | .xc l b1 d1 b2 d2 => Sys2Proof.Machine.execXc l b1 d1 b2 d2 s
  | .lsp l b1 d1 b2 d2 => Sys2Proof.Machine.execLsp l b1 d1 b2 d2 s
  | .tr l b1 d1 b2 d2 => Sys2Proof.Machine.execTr l b1 d1 b2 d2 s
  | .trt l b1 d1 b2 d2 => Sys2Proof.Machine.execTrt l b1 d1 b2 d2 s
  | .ed l b1 d1 b2 d2 => Sys2Proof.Machine.execEd l b1 d1 b2 d2 s
  | .edmk l b1 d1 b2 d2 => Sys2Proof.Machine.execEdmk l b1 d1 b2 d2 s
  | .mvo l1 l2 b1 d1 b2 d2 => Sys2Proof.Machine.execMvo l1 l2 b1 d1 b2 d2 s
  | .pack l1 l2 b1 d1 b2 d2 => Sys2Proof.Machine.execPack l1 l2 b1 d1 b2 d2 s
  | .unpk l1 l2 b1 d1 b2 d2 => Sys2Proof.Machine.execUnpk l1 l2 b1 d1 b2 d2 s
  | .zap l1 l2 b1 d1 b2 d2 => Sys2Proof.Machine.execZap l1 l2 b1 d1 b2 d2 s
  | .cp l1 l2 b1 d1 b2 d2 => Sys2Proof.Machine.execCp l1 l2 b1 d1 b2 d2 s
  | .ap l1 l2 b1 d1 b2 d2 => Sys2Proof.Machine.execAp l1 l2 b1 d1 b2 d2 s
  | .sp l1 l2 b1 d1 b2 d2 => Sys2Proof.Machine.execSp l1 l2 b1 d1 b2 d2 s
  | .mp l1 l2 b1 d1 b2 d2 => Sys2Proof.Machine.execMp l1 l2 b1 d1 b2 d2 s
  | .dp l1 l2 b1 d1 b2 d2 => Sys2Proof.Machine.execDp l1 l2 b1 d1 b2 d2 s

end Sys2Proof.Machine
end

