-- ==== Sys2Proof/Machine/Step.lean ====
section
/-! DEFINITION. The instruction cycle (00_scope R11, 30_encoding R95, 60_exceptions R426). -/

namespace Sys2Proof.Machine

/-- One instruction. A run that has ended answers the fault that ended it (R429; log 6). A condition at fetch leaves
`pc` as it is; an unassigned operation code is suppressed with OpCodeTrap; otherwise `ilc` becomes the instruction's
length, its meaning runs, and a pending condition is taken (R11, R95, R426). An instruction byte that has no value refuses (R68). -/
def step (s : State) : Host.Outcome State Fault Refusal :=
  match s.run with
  | .ended c info => .fault (.interruptTaken c info)
  | .running =>
    match s.fetchBytes s.pc with
    | .error stop => s.fetchStopped stop
    | .ok bs =>
      match decode bs with
      | .instr i => settleResult (exec i (s.beginInstr bs.length))
      | .unassigned _ => (s.beginInstr bs.length).opCodeTrap
      | .truncated => (s.beginInstr bs.length).opCodeTrap

/-- `s` with the instruction whose bits are `w` in storage at `pc`, where the next step fetches it: it stands for the
loading of a program from outside (R461; log 5). -/
def State.withFetchWord (s : State) (nbits w : Nat) : State :=
  s.setMem (s.mem.storeBytes s.pc (tableWordBytes nbits w))

end Sys2Proof.Machine
end

