-- ==== Sys2Proof/Safety.lean ====
section
/-! DEFINITION. The terms the claims use: the invariant of a state, the state an interrupt leaves, the sets of
instructions the spec's whole-machine sentences name, and the value of a floating-point number. -/

namespace Sys2Proof.Machine

/-- The invariant of every state a run reaches: storage and keys in canonical form and within their bounds (R33, R37,
R50), the parameters legal (R6, D24). -/
def State.inv (s : State) : Bool :=
  s.mem.wf && sparseBelow s.mem s.cfg.memSize && Keys.wf s.keys && sparseBelow s.keys (s.cfg.memSize / 2048) &&
    s.cfg.valid

/-- The run goes on and nothing is pending (R426). -/
def State.idle (s : State) : Prop := s.run = .running ∧ s.ifr = 0

/-- The state after a condition whose flag bit is `2^bit` has been taken with this info, nothing else being pending
(R425, R429). -/
def State.interrupted (s : State) (bit : Nat) (c : Condition) (info : Info) : State :=
  { s with ifr := BitVec.ofNat 32 (2 ^ bit), run := .ended c info }

/-- Suppressed: `pc` advanced and the condition taken, nothing else changed (R12). -/
def State.suppressed (s : State) (bit : Nat) (c : Condition) (info : Info) : State :=
  { s with pc := s.next }.interrupted bit c info

/-- A field of `n` bytes at `a` lies in storage; no alignment is asked (R374, R391). -/
def State.field (s : State) (a : Addr) (n : Nat) : Prop :=
  ∀ i < n, (a + BitVec.ofNat 24 i).toNat < s.cfg.memSize

/-- Each of the `n` bytes from `a` on has a value (R40, R68). -/
def State.given (s : State) (a : Addr) (n : Nat) : Prop := ∀ i < n, s.byteAt (a + BitVec.ofNat 24 i) ≠ none

/-- The value of the byte at `a`. A claim reads it only where it asks that the byte have one; it says nothing of the
machine elsewhere, where the model refuses the read. -/
def State.byteVal (s : State) (a : Addr) : Byte := (s.byteAt a).getD 0

/-- An operand of `n` bytes at `a` is aligned, lies in storage and has a value (R53, R56, R68). -/
def State.readable (s : State) (a : Addr) (n : Nat) : Prop := a.toNat % n = 0 ∧ s.field a n ∧ s.given a n

/-- Storing to address `a` is allowed (R57). -/
def State.unprotected (s : State) (a : Addr) : Prop :=
  s.cfg.protection = false ∨ s.cfg.pkey = 0 ∨ s.cfg.pkey = s.keyAt (a.toNat / 2048)

/-- A field of `n` bytes at `a` can be stored into (R56, R57). -/
def State.openField (s : State) (a : Addr) (n : Nat) : Prop :=
  s.field a n ∧ ∀ i < n, s.unprotected (a + BitVec.ofNat 24 i)

/-- An operand of `n` bytes at `a` can be stored (R53, R56, R57). -/
def State.writable (s : State) (a : Addr) (n : Nat) : Prop := a.toNat % n = 0 ∧ s.openField a n

/-- The word at `a`, the byte at `a` leftmost (R51). -/
def State.wordAt (s : State) (a : Addr) : Word :=
  s.byteVal a ++ s.byteVal (a + 1) ++ s.byteVal (a + 2) ++ s.byteVal (a + 3)

/-- The half word at `a` (R51). -/
def State.halfAt (s : State) (a : Addr) : Half := s.byteVal a ++ s.byteVal (a + 1)

/-- The double word at `a` (R51). -/
def State.doubleAt (s : State) (a : Addr) : DWord := s.wordAt a ++ s.wordAt (a + 4)

/-- Byte `i` of a value of `n` bytes, byte 0 leftmost. -/
def byteOf {w : Nat} (v : BitVec w) (n i : Nat) : Byte := v.extractLsb' (8 * (n - 1 - i)) 8

/-- `t` is `s` with the `n` bytes of `v` stored from `a` on, `pc` advanced and nothing else changed. -/
def State.storedAs {w : Nat} (s t : State) (a : Addr) (n : Nat) (v : BitVec w) : Prop :=
  t = { s with mem := t.mem, pc := s.next } ∧
  ∀ b : Addr, t.byteAt b = if (b - a).toNat < n then some (byteOf v n (b - a).toNat) else s.byteAt b

/-- `t` is `s` after a termination (R12, D25): `pc` advanced and the condition taken; the `n` bytes from `a` on and `cc`
may hold any value, nothing else has changed. -/
def State.terminatedField (s t : State) (a : Addr) (n bit : Nat) (c : Condition) (info : Info) : Prop :=
  t = { s with mem := t.mem, cc := t.cc, draws := t.draws, pc := s.next }.interrupted bit c info ∧
  ∀ b : Addr, n ≤ (b - a).toNat → t.byteAt b = s.byteAt b

/-- The byte at `b` as a left-to-right field operation on the field at `a` reads it when `j` bytes of the result are
stored: the new byte if it is one of those, else the old one (R375). -/
def seenRightward (s t : State) (a : Addr) (j : Nat) (b : Addr) : Byte :=
  if (b - a).toNat < j then t.byteVal b else s.byteVal b

/-- That byte has a value: it is one of those stored, or it had one before. -/
def State.givenRightward (s : State) (a : Addr) (j : Nat) (b : Addr) : Prop := (b - a).toNat < j ∨ s.byteAt b ≠ none

/-- The byte at `b` as a right-to-left field operation whose rightmost result byte is at `e` reads it when `j` bytes of
the result are stored (R393). -/
def seenLeftward (s t : State) (e : Addr) (j : Nat) (b : Addr) : Byte :=
  if (e - b).toNat < j then t.byteVal b else s.byteVal b

/-- That byte has a value. -/
def State.givenLeftward (s : State) (e : Addr) (j : Nat) (b : Addr) : Prop := (e - b).toNat < j ∨ s.byteAt b ≠ none

/-- Half-byte `i` of the field at `a`, half-byte 0 leftmost (R390). -/
def State.halfByte (s : State) (a : Addr) (i : Nat) : Nat :=
  (s.byteVal (a + BitVec.ofNat 24 (i / 2))).toNat / (if i % 2 = 0 then 16 else 1) % 16

/-- The packed field of `n` bytes at `a` has a digit above 9 or a sign below 10 (R390, R392). -/
def State.invalidPacked (s : State) (a : Addr) (n : Nat) : Prop :=
  (∃ i < 2 * n - 1, 9 < s.halfByte a i) ∨ s.halfByte a (2 * n - 1) < 10

/-- The generated sign codes: plus 0xC, minus 0xD, and in ASCII mode plus 0xA, minus 0xB (R390). -/
def State.generatedSign (s : State) (minus : Bool) : Nat :=
  if s.cfg.asciiMode then (if minus then 0xB else 0xA) else (if minus then 0xD else 0xC)

/-- A digit as an edit and UNPK put it into a byte: the zone 0xF, in ASCII mode 0x5, and the digit (R390, R373). -/
def State.zoned (s : State) (d : Nat) : Byte := BitVec.ofNat 8 ((if s.cfg.asciiMode then 0x50 else 0xF0) + d)

/-- How many of the `k` pattern bytes from `a` on are digit selects (0x20) or significance starters (0x21) (R373). -/
def State.digitBytes (s : State) (a : Addr) (k : Nat) : Nat :=
  ((List.range k).filter fun j =>
    s.byteVal (a + BitVec.ofNat 24 j) = 0x20 ∨ s.byteVal (a + BitVec.ofNat 24 j) = 0x21).length

/-- The general registers with the address `a` in bits 8-31 of register 1 (R372). -/
def State.withMark (s : State) (a : Addr) : Vector Word 16 := s.x.set 1 ((s.gpr 1).extractLsb' 24 8 ++ a)

/-- ED or EDMK of the pattern of `n` bytes at `a` completes in `t` with this code and these general registers;
every byte outside the pattern is as before (R371 to R373). -/
def State.editCompletes (s t : State) (i : Instr) (a : Addr) (n : Nat) (cc : CC) (x : Vector Word 16) : Prop :=
  exec i s = .next t ∧ t = { s with mem := t.mem, cc := cc, x := x, pc := s.next } ∧
  ∀ b : Addr, n ≤ (b - a).toNat → t.byteAt b = s.byteAt b

/-- ED, or EDMK where `mark`, of the pattern of `n` bytes at `a` is terminated with this condition: the pattern, `cc`
and, for EDMK, bits 8-31 of register 1 may hold any value (R373, R375, D25). -/
def State.editTerminates (s : State) (i : Instr) (mark : Bool) (a : Addr) (n bit : Nat) (c : Condition) (info : Info) :
    Prop :=
  ∃ t, exec i s = .next t ∧ { s with x := t.x }.terminatedField t a n bit c info ∧ (mark = false → t.x = s.x) ∧
    (∀ q : RegNum, q ≠ 1 → t.gpr q = s.gpr q) ∧ (t.gpr 1).extractLsb' 24 8 = (s.gpr 1).extractLsb' 24 8

/-- `v` in `x[r]`. -/
def State.withGpr (s : State) (r : RegNum) (v : Word) : Vector Word 16 := s.x.set r.toNat v r.isLt

/-- `v` in the even-odd pair of `r`, its left half in `x[r]` (R21). -/
def State.withPair (s : State) (r : RegNum) (v : DWord) : Vector Word 16 :=
  (s.x.set r.toNat (v.extractLsb' 32 32) r.isLt).set (r + 1).toNat (v.extractLsb' 0 32) (r + 1).isLt

/-- `v` in `f[r]` (R23). -/
def State.withFpr (s : State) (r : RegNum) (v : DWord) : Vector DWord 4 :=
  s.f.set (fprIndex r).val v (fprIndex r).isLt

/-- `v` in bits 0-31 of `f[r]`, bits 32-63 unchanged (R23). -/
def State.withFprShort (s : State) (r : RegNum) (v : Word) : Vector DWord 4 :=
  s.withFpr r (v ++ (s.fpr r).extractLsb' 0 32)

/-- The word at the effective address is readable and is `v`. -/
def State.wordOperand (s : State) (d : Disp) (x b : RegNum) (v : Word) : Prop :=
  s.readable (s.ea d x b) 4 ∧ v = s.wordAt (s.ea d x b)

/-- The half word at the effective address is readable and, sign-extended, is `v`. -/
def State.halfOperand (s : State) (d : Disp) (x b : RegNum) (v : Word) : Prop :=
  s.readable (s.ea d x b) 2 ∧ v = (s.halfAt (s.ea d x b)).signExtend 32

/-- A storage operand: its address and width, whether it is read and whether it is stored into (R52). -/
structure Access where
  addr : Addr
  width : Nat
  reads : Bool
  stores : Bool

/-- The storage operand of an RX or SI instruction that accesses one (R52, R53). -/
def State.storageOperand (s : State) : Instr → Option Access
  | .sth _ x b d => some ⟨s.ea d x b, 2, false, true⟩
  | .stc _ x b d => some ⟨s.ea d x b, 1, false, true⟩
  | .st _ x b d | .ste _ x b d => some ⟨s.ea d x b, 4, false, true⟩
  | .cvd _ x b d | .std _ x b d => some ⟨s.ea d x b, 8, false, true⟩
  | .ic _ x b d => some ⟨s.ea d x b, 1, true, false⟩
  | .lh _ x b d | .ch _ x b d | .ah _ x b d | .sh _ x b d | .mh _ x b d => some ⟨s.ea d x b, 2, true, false⟩
  | .n _ x b d | .cl _ x b d | .o _ x b d | .x _ x b d | .l _ x b d | .c _ x b d | .a _ x b d | .s _ x b d
  | .m _ x b d | .d _ x b d | .al _ x b d | .sl _ x b d => some ⟨s.ea d x b, 4, true, false⟩
  | .le _ x b d | .ce _ x b d | .ae _ x b d | .se _ x b d | .me _ x b d | .de _ x b d | .au _ x b d
  | .su _ x b d => some ⟨s.ea d x b, 4, true, false⟩
  | .ld _ x b d | .cd _ x b d | .ad _ x b d | .sd _ x b d | .md _ x b d | .dd _ x b d | .aw _ x b d
  | .sw _ x b d | .cvb _ x b d => some ⟨s.ea d x b, 8, true, false⟩
  | .tm _ b d | .cli _ b d => some ⟨s.eab d b, 1, true, false⟩
  | .mvi _ b d => some ⟨s.eab d b, 1, false, true⟩
  | .ts b d | .ni _ b d | .oi _ b d | .xi _ b d => some ⟨s.eab d b, 1, true, true⟩
  | _ => none

/-- A byte-by-byte field instruction: number of bytes, operand addresses, the byte function, whether it reads the first
operand and whether it sets `cc`. -/
structure FieldForm where
  n : Nat
  a1 : Addr
  a2 : Addr
  op : Byte → Byte → Byte
  readsFirst : Bool
  setsCC : Bool

/-- MVN, MVC, MVZ, NC, OC, XC (R361 to R367). -/
def State.fieldForm (s : State) : Instr → Option FieldForm
  | .mvn l b1 d1 b2 d2 =>
    some ⟨l.toNat + 1, s.eab d1 b1, s.eab d2 b2, fun t b => t.extractLsb' 4 4 ++ b.extractLsb' 0 4, true, false⟩
  | .mvc l b1 d1 b2 d2 => some ⟨l.toNat + 1, s.eab d1 b1, s.eab d2 b2, fun _ b => b, false, false⟩
  | .mvz l b1 d1 b2 d2 =>
    some ⟨l.toNat + 1, s.eab d1 b1, s.eab d2 b2, fun t b => b.extractLsb' 4 4 ++ t.extractLsb' 0 4, true, false⟩
  | .nc l b1 d1 b2 d2 => some ⟨l.toNat + 1, s.eab d1 b1, s.eab d2 b2, fun t b => t &&& b, true, true⟩
  | .oc l b1 d1 b2 d2 => some ⟨l.toNat + 1, s.eab d1 b1, s.eab d2 b2, fun t b => t ||| b, true, true⟩
  | .xc l b1 d1 b2 d2 => some ⟨l.toNat + 1, s.eab d1 b1, s.eab d2 b2, fun t b => t ^^^ b, true, true⟩
  | _ => none

/-- A decimal move: the two lengths less one, operand addresses, the places of the source bytes step `k` fetches,
counted from the rightmost, and the byte step `k` stores, where `old` is the old rightmost byte of the first operand and
`src j i` the source byte `i` places left of the rightmost as it stands when `j` bytes have been stored. -/
structure MoveForm where
  l1 : Nat
  l2 : Nat
  a1 : Addr
  a2 : Addr
  needs : Nat → List Nat
  readsFirst : Bool
  result : Byte → (Nat → Nat → Byte) → Nat → Byte

/-- MVO, PACK, UNPK (R400 to R402). MVO takes `S(k - 1)` as step `k - 1` fetched it, UNPK fetches `S(k / 2)` again at an
even step `k`: the model's choice (log 10). -/
def State.moveForm (s : State) : Instr → Option MoveForm
  | .mvo l1 l2 b1 d1 b2 d2 => some
    { l1 := l1.toNat, l2 := l2.toNat, a1 := s.eab d1 b1, a2 := s.eab d2 b2, needs := fun k => [k], readsFirst := true
      result := fun old src k => (src k k).extractLsb' 0 4 ++
        (if k = 0 then old.extractLsb' 0 4 else (src (k - 1) (k - 1)).extractLsb' 4 4) }
  | .pack l1 l2 b1 d1 b2 d2 => some
    { l1 := l1.toNat, l2 := l2.toNat, a1 := s.eab d1 b1, a2 := s.eab d2 b2, needs := fun k => [2 * k, 2 * k - 1]
      readsFirst := false
      result := fun _ src k => if k = 0 then (src 0 0).extractLsb' 0 4 ++ (src 0 0).extractLsb' 4 4
        else (src k (2 * k)).extractLsb' 0 4 ++ (src k (2 * k - 1)).extractLsb' 0 4 }
  | .unpk l1 l2 b1 d1 b2 d2 => some
    { l1 := l1.toNat, l2 := l2.toNat, a1 := s.eab d1 b1, a2 := s.eab d2 b2, needs := fun k => [(k + 1) / 2]
      readsFirst := false
      result := fun _ src k => if k = 0 then (src 0 0).extractLsb' 0 4 ++ (src 0 0).extractLsb' 4 4
        else (if s.cfg.asciiMode then 0x5#4 else 0xF#4) ++ (src k ((k + 1) / 2)).extractLsb' (if k % 2 = 1 then 0 else 4) 4 }
  | _ => none

/-- A decimal addition or comparison: numbers of bytes, operand addresses, whether the first operand is read and whether
it is stored into, and the exact result. -/
structure DecimalForm where
  n1 : Nat
  n2 : Nat
  a1 : Addr
  a2 : Addr
  readsFirst : Bool
  stores : Bool
  value : Int → Int → Int

/-- AP, SP, ZAP, CP (R403 to R406). -/
def State.decimalForm (s : State) : Instr → Option DecimalForm
  | .ap l1 l2 b1 d1 b2 d2 =>
    some ⟨l1.toNat + 1, l2.toNat + 1, s.eab d1 b1, s.eab d2 b2, true, true, fun p q => p + q⟩
  | .sp l1 l2 b1 d1 b2 d2 =>
    some ⟨l1.toNat + 1, l2.toNat + 1, s.eab d1 b1, s.eab d2 b2, true, true, fun p q => p - q⟩
  | .zap l1 l2 b1 d1 b2 d2 =>
    some ⟨l1.toNat + 1, l2.toNat + 1, s.eab d1 b1, s.eab d2 b2, false, true, fun _ q => q⟩
  | .cp l1 l2 b1 d1 b2 d2 =>
    some ⟨l1.toNat + 1, l2.toNat + 1, s.eab d1 b1, s.eab d2 b2, true, false, fun p q => p - q⟩
  | _ => none

/-- A two-operand floating-point instruction: destination register, number of fraction digits, the operands as
numbers, whether the result is normalized and whether the second operand is negated. -/
structure FloatForm where
  r1 : RegNum
  n : Nat
  a : Nat
  b : Nat
  normalize : Bool
  negate : Bool

/-- The long operand at the effective address. -/
def State.longForm (s : State) (r1 x2 b2 : RegNum) (d2 : Disp) (normalize negate : Bool) : FloatForm :=
  ⟨r1, 14, (s.fpr r1).toNat, (s.doubleAt (s.ea d2 x2 b2)).toNat, normalize, negate⟩

/-- The short operand at the effective address. -/
def State.shortForm (s : State) (r1 x2 b2 : RegNum) (d2 : Disp) (normalize negate : Bool) : FloatForm :=
  ⟨r1, 6, (s.fprShort r1).toNat, (s.wordAt (s.ea d2 x2 b2)).toNat, normalize, negate⟩

/-- The sixteen floating-point additions and subtractions (R197 to R215, R283 to R297). -/
def State.floatAddForm (s : State) : Instr → Option FloatForm
  | .adr r1 r2 => some ⟨r1, 14, (s.fpr r1).toNat, (s.fpr r2).toNat, true, false⟩
  | .sdr r1 r2 => some ⟨r1, 14, (s.fpr r1).toNat, (s.fpr r2).toNat, true, true⟩
  | .awr r1 r2 => some ⟨r1, 14, (s.fpr r1).toNat, (s.fpr r2).toNat, false, false⟩
  | .swr r1 r2 => some ⟨r1, 14, (s.fpr r1).toNat, (s.fpr r2).toNat, false, true⟩
  | .aer r1 r2 => some ⟨r1, 6, (s.fprShort r1).toNat, (s.fprShort r2).toNat, true, false⟩
  | .ser r1 r2 => some ⟨r1, 6, (s.fprShort r1).toNat, (s.fprShort r2).toNat, true, true⟩
  | .aur r1 r2 => some ⟨r1, 6, (s.fprShort r1).toNat, (s.fprShort r2).toNat, false, false⟩
  | .sur r1 r2 => some ⟨r1, 6, (s.fprShort r1).toNat, (s.fprShort r2).toNat, false, true⟩
  | .ad r1 x b d => some (s.longForm r1 x b d true false)
  | .sd r1 x b d => some (s.longForm r1 x b d true true)
  | .aw r1 x b d => some (s.longForm r1 x b d false false)
  | .sw r1 x b d => some (s.longForm r1 x b d false true)
  | .ae r1 x b d => some (s.shortForm r1 x b d true false)
  | .se r1 x b d => some (s.shortForm r1 x b d true true)
  | .au r1 x b d => some (s.shortForm r1 x b d false false)
  | .su r1 x b d => some (s.shortForm r1 x b d false true)
  | _ => none

/-- The four floating-point compares (R196, R209, R282, R291). -/
def State.floatCompareForm (s : State) : Instr → Option FloatForm
  | .cdr r1 r2 => some ⟨r1, 14, (s.fpr r1).toNat, (s.fpr r2).toNat, true, true⟩
  | .cer r1 r2 => some ⟨r1, 6, (s.fprShort r1).toNat, (s.fprShort r2).toNat, true, true⟩
  | .cd r1 x b d => some (s.longForm r1 x b d true true)
  | .ce r1 x b d => some (s.shortForm r1 x b d true true)
  | _ => none

/-- The four floating-point multiplications (R199, R212, R285, R294). -/
def State.floatMultiplyForm (s : State) : Instr → Option FloatForm
  | .mdr r1 r2 => some ⟨r1, 14, (s.fpr r1).toNat, (s.fpr r2).toNat, true, false⟩
  | .mer r1 r2 => some ⟨r1, 6, (s.fprShort r1).toNat, (s.fprShort r2).toNat, true, false⟩
  | .md r1 x b d => some (s.longForm r1 x b d true false)
  | .me r1 x b d => some (s.shortForm r1 x b d true false)
  | _ => none

/-- The four floating-point divisions (R200, R213, R286, R295). -/
def State.floatDivideForm (s : State) : Instr → Option FloatForm
  | .ddr r1 r2 => some ⟨r1, 14, (s.fpr r1).toNat, (s.fpr r2).toNat, true, false⟩
  | .der r1 r2 => some ⟨r1, 6, (s.fprShort r1).toNat, (s.fprShort r2).toNat, true, false⟩
  | .dd r1 x b d => some (s.longForm r1 x b d true false)
  | .de r1 x b d => some (s.shortForm r1 x b d true false)
  | _ => none

/-- The instruction's register numbers are right and its storage operand, if it has one, can be read. -/
def State.operandsReady (s : State) (i : Instr) : Prop :=
  i.wellFormed = true ∧ ∀ w, s.storageOperand i = some w → s.readable w.addr w.width

/-- The floating-point registers with a result `v` of `n` fraction digits in `f[r]`: all 64 bits for a long result,
bits 0-31 for a short one (R181). -/
def State.floatWritten (s : State) (r : RegNum) (n v : Nat) : Vector DWord 4 :=
  if n = 14 then s.withFpr r (BitVec.ofNat 64 v) else s.withFprShort r (BitVec.ofNat 32 v)

/-- The floating-point registers `f` are those of `s` but for the result field of `n` digits in `f[r]`, which may hold
any value: all 64 bits of `f[r]`, or bits 0-31 of it (R181, R188). -/
def State.floatFreed (s : State) (r : RegNum) (n : Nat) (f : Vector DWord 4) : Prop :=
  ∃ v : Nat, f = s.floatWritten r n v

/-- The value of a floating-point number of `n` fraction digits (R180). -/
def floatValue (n v : Nat) : ℚ :=
  (if v / (128 * 16 ^ n) % 2 = 1 then -1 else 1) * (16 : ℚ) ^ ((v / 16 ^ n % 128 : Nat) - 64 : Int) *
    ((v % 16 ^ n : Nat) / (16 : ℚ) ^ n)

/-- The signed fraction of a floating-point number of `n` digits with `g` guard digits, shifted right to the
characteristic `c`: digits shifted out beyond the guard are lost (R184). `minus` inverts the sign. -/
def shiftedFraction (n g c : Nat) (minus : Bool) (v : Nat) : Int :=
  (if (v / (128 * 16 ^ n) % 2 == 1) != minus then -1 else 1) *
    ((v % 16 ^ n * 16 ^ g / 16 ^ (c - v / 16 ^ n % 128) : Nat) : Int)

/-- The condition code of an integer compared with zero (R121). -/
def signCode3 (t : Int) : CC := if t = 0 then 0 else if t < 0 then 1 else 2

/-- The instructions that may branch, EX among them (R26). -/
def mayBranch : Instr → Bool
  | .balr _ _ | .bctr _ _ | .bcr _ _ | .bal _ _ _ _ | .bct _ _ _ _ | .bc _ _ _ _ | .bxh _ _ _ _ | .bxle _ _ _ _
  | .ex _ _ _ _ => true
  | _ => false

/-- The instructions that may write `cc`: the condition-code table (R29), SPM, TS (R28), and EX, whose subject may. -/
def mayWriteCC : Instr → Bool
  | .al _ _ _ _ | .alr _ _ | .sl _ _ _ _ | .slr _ _ => true
  | .a _ _ _ _ | .ad _ _ _ _ | .adr _ _ | .ae _ _ _ _ | .aer _ _ | .ah _ _ _ _ | .ap _ _ _ _ _ _ | .ar _ _
  | .au _ _ _ _ | .aur _ _ | .aw _ _ _ _ | .awr _ _ | .s _ _ _ _ | .sd _ _ _ _ | .sdr _ _ | .se _ _ _ _ | .ser _ _
  | .sh _ _ _ _ | .sp _ _ _ _ _ _ | .sr _ _ | .su _ _ _ _ | .sur _ _ | .sw _ _ _ _ | .swr _ _ | .zap _ _ _ _ _ _
  | .sla _ _ _ | .slda _ _ _ | .lcr _ _ => true
  | .c _ _ _ _ | .cd _ _ _ _ | .cdr _ _ | .ce _ _ _ _ | .cer _ _ | .ch _ _ _ _ | .cl _ _ _ _ | .clc _ _ _ _ _
  | .cli _ _ _ | .clr _ _ | .cp _ _ _ _ _ _ | .cr _ _ => true
  | .ed _ _ _ _ _ | .edmk _ _ _ _ _ | .sra _ _ _ | .srda _ _ _ | .lcdr _ _ | .lcer _ _ | .ltdr _ _ | .lter _ _
  | .ltr _ _ => true
  | .lpdr _ _ | .lper _ _ | .lpr _ _ | .lndr _ _ | .lner _ _ | .lnr _ _ => true
  | .n _ _ _ _ | .nc _ _ _ _ _ | .ni _ _ _ | .nr _ _ | .o _ _ _ _ | .oc _ _ _ _ _ | .oi _ _ _ | .or _ _ | .x _ _ _ _
  | .xc _ _ _ _ _ | .xi _ _ _ | .xr _ _ => true
  | .tm _ _ _ | .trt _ _ _ _ _ | .spm _ | .ts _ _ | .ex _ _ _ _ => true
  | _ => false

/-- The instructions that may store into main storage, EX among them. -/
def mayStore : Instr → Bool
  | .sth _ _ _ _ | .stc _ _ _ _ | .st _ _ _ _ | .cvd _ _ _ _ | .std _ _ _ _ | .ste _ _ _ _ | .stm _ _ _ _ => true
  | .mvi _ _ _ | .ts _ _ | .ni _ _ _ | .oi _ _ _ | .xi _ _ _ => true
  | .mvn _ _ _ _ _ | .mvc _ _ _ _ _ | .mvz _ _ _ _ _ | .nc _ _ _ _ _ | .oc _ _ _ _ _ | .xc _ _ _ _ _
  | .tr _ _ _ _ _ | .ed _ _ _ _ _ | .edmk _ _ _ _ _ => true
  | .mvo _ _ _ _ _ _ | .pack _ _ _ _ _ _ | .unpk _ _ _ _ _ _ | .zap _ _ _ _ _ _ | .ap _ _ _ _ _ _
  | .sp _ _ _ _ _ _ | .mp _ _ _ _ _ _ | .dp _ _ _ _ _ _ => true
  | .ex _ _ _ _ => true
  | _ => false

/-- The floating-point instructions, operation codes 20 to 3F and 60 to 7F (R23). -/
def isFloating : Instr → Bool
  | .lpdr _ _ | .lndr _ _ | .ltdr _ _ | .lcdr _ _ | .hdr _ _ | .ldr _ _ | .cdr _ _ | .adr _ _ | .sdr _ _ | .mdr _ _
  | .ddr _ _ | .awr _ _ | .swr _ _ | .lper _ _ | .lner _ _ | .lter _ _ | .lcer _ _ | .her _ _ | .ler _ _ | .cer _ _
  | .aer _ _ | .ser _ _ | .mer _ _ | .der _ _ | .aur _ _ | .sur _ _ => true
  | .std _ _ _ _ | .ld _ _ _ _ | .cd _ _ _ _ | .ad _ _ _ _ | .sd _ _ _ _ | .md _ _ _ _ | .dd _ _ _ _ | .aw _ _ _ _
  | .sw _ _ _ _ | .ste _ _ _ _ | .le _ _ _ _ | .ce _ _ _ _ | .ae _ _ _ _ | .se _ _ _ _ | .me _ _ _ _ | .de _ _ _ _
  | .au _ _ _ _ | .su _ _ _ _ => true
  | _ => false

/-- The one instruction that writes the program mask, and EX, whose subject may be it (R30). -/
def mayWriteMask : Instr → Bool
  | .spm _ | .ex _ _ _ _ => true
  | _ => false

/-- The one instruction that writes a storage key, and EX, whose subject may be it (R33). -/
def mayWriteKey : Instr → Bool
  | .ssk _ _ | .ex _ _ _ _ => true
  | _ => false

end Sys2Proof.Machine
end

