-- ==== Sys2Proof/Certificates/Slice0/Obligations.lean ====
section
/-! DEFINITION. The statements for the provers. -/

open Sys2Proof Sys2Proof.Machine

/-- R81 to R86, R92: decoding the encoding of any instruction gives it back, with every field at every value. -/
def Obligations.DecodeEncodeRoundTrip : Prop := ∀ i : Instr, decode (encode i) = .instr i

/-- R91: a field the instruction does not use takes any value. -/
def Obligations.UnusedFieldsIgnored : Prop :=
  (∀ r1 r2 : BitVec 4, decode [0x04, r1 ++ r2] = .instr (.spm r1)) ∧
  (∀ (r1 r3 : BitVec 4) (y z : Byte),
    decode [0x88, r1 ++ r3, y, z] = decode [0x88, r1 ++ 0#4, y, z] ∧
    decode [0x89, r1 ++ r3, y, z] = decode [0x89, r1 ++ 0#4, y, z] ∧
    decode [0x8A, r1 ++ r3, y, z] = decode [0x8A, r1 ++ 0#4, y, z] ∧
    decode [0x8B, r1 ++ r3, y, z] = decode [0x8B, r1 ++ 0#4, y, z] ∧
    decode [0x8C, r1 ++ r3, y, z] = decode [0x8C, r1 ++ 0#4, y, z] ∧
    decode [0x8D, r1 ++ r3, y, z] = decode [0x8D, r1 ++ 0#4, y, z] ∧
    decode [0x8E, r1 ++ r3, y, z] = decode [0x8E, r1 ++ 0#4, y, z] ∧
    decode [0x8F, r1 ++ r3, y, z] = decode [0x8F, r1 ++ 0#4, y, z]) ∧
  (∀ i2 y z : Byte,
    decode [0x9C, i2, y, z] = decode [0x9C, 0, y, z] ∧ decode [0x9D, i2, y, z] = decode [0x9D, 0, y, z] ∧
    decode [0x9E, i2, y, z] = decode [0x9E, 0, y, z] ∧ decode [0x9F, i2, y, z] = decode [0x9F, 0, y, z] ∧
    decode [0x93, i2, y, z] = decode [0x93, 0, y, z] ∧ decode [0x80, i2, y, z] = .instr (.idl i2))

/-- Words of every format, written out from R81 to R86 and the opcode map R92, and the number of unassigned codes. -/
def Obligations.WrittenWordsDecode : Prop :=
  decode [0x1A, 0x12] = .instr (.ar 1 2) ∧
  decode [0x0A, 0x03] = .instr (.svc 3) ∧
  decode [0x07, 0x8E] = .instr (.bcr 8 14) ∧
  decode [0x2A, 0x02] = .instr (.adr 0 2) ∧
  decode [0x3C, 0x46] = .instr (.mer 4 6) ∧
  decode [0x58, 0x12, 0x30, 0x08] = .instr (.l 1 2 3 8) ∧
  decode [0x44, 0x10, 0xC1, 0x00] = .instr (.ex 1 0 12 0x100) ∧
  decode [0x68, 0x20, 0x30, 0x08] = .instr (.ld 2 0 3 8) ∧
  decode [0x86, 0x12, 0xC0, 0x10] = .instr (.bxh 1 2 12 0x010) ∧
  decode [0x90, 0xE1, 0xD0, 0x0C] = .instr (.stm 14 1 13 0x00C) ∧
  decode [0x92, 0x40, 0x10, 0x05] = .instr (.mvi 0x40 1 5) ∧
  decode [0xD2, 0x04, 0xC0, 0x40, 0xC0, 0x50] = .instr (.mvc 4 12 0x040 12 0x050) ∧
  decode [0xFA, 0x10, 0x10, 0x00, 0x20, 0x00] = .instr (.ap 1 0 1 0 2 0) ∧
  ((List.range 256).filter fun op =>
    decode [BitVec.ofNat 8 op, 0, 0, 0, 0, 0] = .unassigned (BitVec.ofNat 8 op)).length = 111

/-- R11: when the bytes at the program counter decode to an instruction, the step is its meaning in the state whose
`ilc` is its length in half words; a condition still pending afterwards is then taken (R426). In a run that has ended
(R429) the step is the fault that names the condition: the model's way of ending a run (log 6). -/
def Obligations.StepRunsDecoded : Prop :=
  (∀ (s : State) (bs : List Byte) (i : Instr),
      s.run = .running → s.fetchBytes s.pc = .ok bs → decode bs = .instr i →
      (∀ t, exec i { s with ilc := BitVec.ofNat 2 (bs.length / 2) } = .next t →
        (t.run = .running → t.ifr = 0 → step s = .next t) ∧
        (t.run = .running → step s = .next (t.takeInterrupt none)) ∧
        (t.run ≠ .running → step s = .next t)) ∧
      (∀ r, exec i { s with ilc := BitVec.ofNat 2 (bs.length / 2) } = .refused r → step s = .refused r)) ∧
  (∀ (s : State) (c : Condition) (info : Info), s.run = .ended c info → step s = .fault (.interruptTaken c info))

/-- R54, R56, R68, R80, R95, R429, R464: an even instruction address at which as many bytes lie in storage as the first
of them asks for fetches those bytes as storage holds them; an odd one, and an instruction byte outside storage, end the
run at the fetch with nothing changed but the flag: `pc` keeps its value; an instruction byte that nothing has given a
value refuses. Two things are the model's choice (DEDUCED): that a later byte outside storage comes before one without
value (log 11), and that `ilc` too keeps its value when the fetch raises (log 23). -/
def Obligations.InstructionFetch : Prop :=
  ∀ (s : State) (a : Addr) (n : Nat),
    (∀ op : Byte, s.byteAt a = some op → n = (if op.toNat < 64 then 2 else if op.toNat < 192 then 4 else 6)) →
    (a.toNat % 2 = 0 → s.byteAt a ≠ none → s.field a n → s.given a n →
      ∃ bs, s.fetchBytes a = .ok bs ∧ bs.length = n ∧ ∀ i < n, bs[i]? = s.byteAt (a + BitVec.ofNat 24 i)) ∧
    (s.idle → s.pc = a →
      (a.toNat % 2 = 1 → step s = .next (s.interrupted 23 .addressError (.address .specification))) ∧
      (a.toNat % 2 = 0 → ¬ s.field a 1 ∨ s.byteAt a ≠ none ∧ ¬ s.field a n →
        step s = .next (s.interrupted 23 .addressError (.address .addressing))) ∧
      (a.toNat % 2 = 0 → s.field a 1 → s.byteAt a = none ∨ s.field a n ∧ ¬ s.given a n →
        step s = .refused .noValue))

/-- R434: an operation code to which no instruction is assigned, fetched or named by EX, is suppressed with OpCodeTrap,
`pc` advanced by the length the code gives (by that of the EX). -/
def Obligations.UnassignedCodeTraps : Prop :=
  (∀ (s : State) (bs : List Byte) (op : Byte), s.idle →
    s.fetchBytes s.pc = .ok bs → decode bs = .unassigned op →
    step s = .next
      ({ s with ilc := BitVec.ofNat 2 (bs.length / 2), pc := s.pc + BitVec.ofNat 24 bs.length }.interrupted 22
        .opCodeTrap .none)) ∧
  (∀ (s : State) (r1 x2 b2 : RegNum) (d2 : Disp) (bs : List Byte) (op : Byte), s.ifr = 0 →
    s.fetchBytes (s.ea d2 x2 b2) = .ok bs → decode bs = .unassigned op →
    exec (.ex r1 x2 b2 d2) s = .next (s.suppressed 22 .opCodeTrap .none))

/-- R426, R427: a condition whose flag is still 1 after an instruction that raised none is taken, the one of lowest
priority number. That it is taken with no info (`.none`) is the model's choice (DEDUCED, log 14): R426 and R427 do not
say with which info a condition is taken whose flag was already 1. -/
def Obligations.PendingConditionTaken : Prop :=
  ∀ (s : State) (bs : List Byte) (i : Instr) (t : State),
    s.run = .running → s.fetchBytes s.pc = .ok bs → decode bs = .instr i →
    exec i { s with ilc := BitVec.ofNat 2 (bs.length / 2) } = .next t → t.run = .running → t.ifr ≠ 0 →
    ∃ c : Condition, step s = .next { t with run := .ended c .none } ∧
      t.ifr.getLsbD (c.priority - 1) = true ∧ ∀ k < c.priority - 1, t.ifr.getLsbD k = false

/-- R421 to R424: the numbers of the 32 conditions. -/
def Obligations.ConditionNumbers : Prop :=
  (∀ c : Condition, c.weight = 4 * (c.priority - 1) ∧ c.flag = BitVec.ofNat 32 (2 ^ (c.priority - 1)) ∧
    c.flag = BitVec.ofNat 32 (2 ^ (c.weight / 4)) ∧ 1 ≤ c.priority ∧ c.priority ≤ 32 ∧
    (c.stateInitiated = 4 ↔ c = .powerFailure ∨ c = .machineCheck) ∧
    (c.stateInitiated = 3 ↔ ¬(c = .powerFailure ∨ c = .machineCheck))) ∧
  Condition.priority .powerFailure = 1 ∧ Condition.priority .supervisorCall = 21 ∧
  Condition.priority .privilegedOperation = 22 ∧ Condition.priority .opCodeTrap = 23 ∧
  Condition.priority .addressError = 24 ∧ Condition.priority .dataError = 25 ∧
  Condition.priority .exponentOverflow = 26 ∧ Condition.priority .divideError = 27 ∧
  Condition.priority .significantError = 28 ∧ Condition.priority .exponentUnderflow = 29 ∧
  Condition.priority .decimalOverflow = 30 ∧ Condition.priority .fixedPointOverflow = 31 ∧
  Condition.priority .testMode = 32

/-- R40, R6: what the spec says of the start of a run: nothing pending, running, no byte of storage with a value, and the
parameters at their defaults. -/
def Obligations.ResetLaunchValues : Prop :=
  State.reset.ifr = 0 ∧ State.reset.run = .running ∧ (∀ a : Addr, State.reset.byteAt a = none) ∧
  State.reset.cfg.privileged = false ∧ State.reset.cfg.asciiMode = false ∧ State.reset.cfg.protection = false ∧
  State.reset.cfg.fpLongGuard = true ∧ State.reset.cfg.halveNormalizes = false ∧ State.reset.cfg.keyBit = 24

/-- The invariant holds after reset. -/
def Obligations.ResetInvariant : Prop := State.reset.inv = true

/-- Every step keeps the invariant: storage and keys in canonical form and within bounds, legal parameters. -/
def Obligations.StepKeepsInvariant : Prop := ∀ s t : State, s.inv = true → step s = .next t → t.inv = true

/-- R39, R445: no step changes a parameter. -/
def Obligations.ParametersConstant : Prop := ∀ s t : State, step s = .next t → t.cfg = s.cfg

/-- R443, R444: no step sets the flag of a condition of rows 1 to 20 or of Test Mode, or clears one. -/
def Obligations.OutsideConditionsNeverRaised : Prop :=
  ∀ s t : State, step s = .next t → t.ifr &&& 0x800FFFFF#32 = s.ifr &&& 0x800FFFFF#32

/-- R30, R33: only SPM writes the program mask and only SSK a storage key, and a key changes only with privilege. -/
def Obligations.MaskAndKeysKept : Prop :=
  (∀ (i : Instr) (s t : State), exec i s = .next t → mayWriteMask i = false → t.pm = s.pm) ∧
  (∀ (i : Instr) (s t : State), exec i s = .next t → mayWriteKey i = false → t.keys = s.keys) ∧
  (∀ s t : State, step s = .next t → s.cfg.privileged = false → t.keys = s.keys)

/-- R11, R26: every instruction but the branches and EX advances `pc` by its length, however it ends. -/
def Obligations.SequentialAdvance : Prop :=
  ∀ (i : Instr) (s t : State), exec i s = .next t → mayBranch i = false →
    t.pc = s.pc + BitVec.ofNat 24 (2 * s.ilc.toNat)

/-- R28: an instruction outside the condition-code table leaves `cc` unchanged, however it ends. -/
def Obligations.ConditionCodeKept : Prop :=
  ∀ (i : Instr) (s t : State), exec i s = .next t → mayWriteCC i = false → t.cc = s.cc

/-- R23, R37: an instruction that stores nothing leaves every byte of storage as it was; the two register files are
separate: floating-point instructions change no general register, the others no floating-point register. -/
def Obligations.StorageAndRegisterFilesKept : Prop :=
  (∀ (i : Instr) (s t : State), exec i s = .next t → mayStore i = false → ∀ a : Addr, t.byteAt a = s.byteAt a) ∧
  (∀ (i : Instr) (s t : State), exec i s = .next t → isFloating i = true → t.x = s.x) ∧
  (∀ (i : Instr) (s t : State), exec i s = .next t → isFloating i = false → (∀ r x b d, i ≠ .ex r x b d) → t.f = s.f)

/-- R420, R425: from an idle state a step either stays idle or ends the run with one condition of rows 21 to 31, whose
flag is then the only one set. -/
def Obligations.EndedRunNamesItsFlag : Prop :=
  ∀ s t : State, s.idle → step s = .next t →
    t.idle ∨ ∃ c info, t.run = .ended c info ∧ t.ifr = c.flag ∧ 21 ≤ c.priority ∧ c.priority ≤ 31 ∧
      ((∃ k, info = .svc k) ↔ c = .supervisorCall) ∧ ((∃ k, info = .address k) ↔ c = .addressError)

/-- R57: with protection on, a step after which the run goes on has changed no byte of a block whose key does not
match. -/
def Obligations.ProtectedBlocksKept : Prop :=
  ∀ (s t : State) (a : Addr), step s = .next t → t.run = .running → ¬ s.unprotected a → t.byteAt a = s.byteAt a

/-- R88, R89, R231: effective addresses, and LA, which loads one. -/
def Obligations.EffectiveAddresses : Prop :=
  ∀ (s : State) (r1 x b : RegNum) (d : Disp),
    (s.ea d x b).toNat =
      (d.toNat + (if x = 0 then 0 else (s.gpr x).toNat) + (if b = 0 then 0 else (s.gpr b).toNat)) % 2 ^ 24 ∧
    (s.eab d b).toNat = (d.toNat + (if b = 0 then 0 else (s.gpr b).toNat)) % 2 ^ 24 ∧
    exec (.la r1 x b d) s = .next { s with
      x := s.withGpr r1 (BitVec.ofNat 32
        ((d.toNat + (if x = 0 then 0 else (s.gpr x).toNat) + (if b = 0 then 0 else (s.gpr b).toNat)) % 2 ^ 24))
      pc := s.next }

/-- R137 to R140, R145: LR, LTR, LPR, LNR, LCR. -/
def Obligations.RegisterLoads : Prop :=
  ∀ (s : State) (r1 r2 : RegNum) (v : Word), v = s.gpr r2 →
    exec (.lr r1 r2) s = .next { s with x := s.withGpr r1 v, pc := s.next } ∧
    exec (.ltr r1 r2) s = .next { s with
      x := s.withGpr r1 v, cc := if v = 0 then 0 else if v.msb then 1 else 2, pc := s.next } ∧
    exec (.lnr r1 r2) s = .next { s with
      x := s.withGpr r1 (if v.msb then v else -v), cc := if v = 0 then 0 else 1, pc := s.next } ∧
    (v ≠ 0x80000000#32 →
      exec (.lpr r1 r2) s = .next { s with
        x := s.withGpr r1 (if v.msb then -v else v), cc := if v = 0 then 0 else 2, pc := s.next } ∧
      exec (.lcr r1 r2) s = .next { s with
        x := s.withGpr r1 (-v), cc := if v = 0 then 0 else if v.msb then 2 else 1, pc := s.next }) ∧
    (v = 0x80000000#32 → s.pm.getLsbD 3 = false →
      exec (.lpr r1 r2) s = .next { s with x := s.withGpr r1 v, cc := 3, pc := s.next } ∧
      exec (.lcr r1 r2) s = .next { s with x := s.withGpr r1 v, cc := 3, pc := s.next }) ∧
    (v = 0x80000000#32 → s.pm.getLsbD 3 = true → s.ifr = 0 →
      exec (.lpr r1 r2) s = .next
        ({ s with x := s.withGpr r1 v, cc := 3, pc := s.next }.interrupted 30 .fixedPointOverflow .none) ∧
      exec (.lcr r1 r2) s = .next
        ({ s with x := s.withGpr r1 v, cc := 3, pc := s.next }.interrupted 30 .fixedPointOverflow .none))

/-- R122, R147, R148, R240, R241, R252, R253: AR, A, AH, SR, S, SH: the wrapped sum or difference, the code, and
FixedPointOverflow where `pm{0}` is 1. -/
def Obligations.SignedSums : Prop :=
  (∀ (s : State) (i : Instr) (r1 : RegNum) (b : Word),
      ((∃ r2, i = .ar r1 r2 ∧ b = s.gpr r2) ∨
        (∃ x2 b2 d2, i = .a r1 x2 b2 d2 ∧ s.wordOperand d2 x2 b2 b) ∨
        (∃ x2 b2 d2, i = .ah r1 x2 b2 d2 ∧ s.halfOperand d2 x2 b2 b)) →
      (BitVec.saddOverflow (s.gpr r1) b = false →
        exec i s = .next { s with
          x := s.withGpr r1 (s.gpr r1 + b)
          cc := if s.gpr r1 + b = 0 then 0 else if (s.gpr r1 + b).msb then 1 else 2
          pc := s.next }) ∧
      (BitVec.saddOverflow (s.gpr r1) b = true → s.pm.getLsbD 3 = false →
        exec i s = .next { s with x := s.withGpr r1 (s.gpr r1 + b), cc := 3, pc := s.next }) ∧
      (BitVec.saddOverflow (s.gpr r1) b = true → s.pm.getLsbD 3 = true → s.ifr = 0 →
        exec i s = .next
          ({ s with x := s.withGpr r1 (s.gpr r1 + b), cc := 3, pc := s.next }.interrupted 30 .fixedPointOverflow .none))) ∧
  (∀ (s : State) (i : Instr) (r1 : RegNum) (b : Word),
      ((∃ r2, i = .sr r1 r2 ∧ b = s.gpr r2) ∨
        (∃ x2 b2 d2, i = .s r1 x2 b2 d2 ∧ s.wordOperand d2 x2 b2 b) ∨
        (∃ x2 b2 d2, i = .sh r1 x2 b2 d2 ∧ s.halfOperand d2 x2 b2 b)) →
      (BitVec.ssubOverflow (s.gpr r1) b = false →
        exec i s = .next { s with
          x := s.withGpr r1 (s.gpr r1 - b)
          cc := if s.gpr r1 - b = 0 then 0 else if (s.gpr r1 - b).msb then 1 else 2
          pc := s.next }) ∧
      (BitVec.ssubOverflow (s.gpr r1) b = true → s.pm.getLsbD 3 = false →
        exec i s = .next { s with x := s.withGpr r1 (s.gpr r1 - b), cc := 3, pc := s.next }) ∧
      (BitVec.ssubOverflow (s.gpr r1) b = true → s.pm.getLsbD 3 = true → s.ifr = 0 →
        exec i s = .next
          ({ s with x := s.withGpr r1 (s.gpr r1 - b), cc := 3, pc := s.next }.interrupted 30 .fixedPointOverflow .none)))

/-- R123, R151, R152, R256, R257: ALR, AL, SLR, SL: the code tells carry and zero; nothing is raised. -/
def Obligations.LogicalSums : Prop :=
  ∀ (s : State) (i : Instr) (r1 : RegNum) (b : Word),
    (((∃ r2, i = .alr r1 r2 ∧ b = s.gpr r2) ∨ (∃ x2 b2 d2, i = .al r1 x2 b2 d2 ∧ s.wordOperand d2 x2 b2 b)) →
      exec i s = .next { s with
        x := s.withGpr r1 (s.gpr r1 + b)
        cc := if (s.gpr r1).toNat + b.toNat < 2 ^ 32 then (if s.gpr r1 + b = 0 then 0 else 1)
          else (if s.gpr r1 + b = 0 then 2 else 3)
        pc := s.next }) ∧
    (((∃ r2, i = .slr r1 r2 ∧ b = s.gpr r2) ∨ (∃ x2 b2 d2, i = .sl r1 x2 b2 d2 ∧ s.wordOperand d2 x2 b2 b)) →
      exec i s = .next { s with
        x := s.withGpr r1 (s.gpr r1 - b)
        cc := if (s.gpr r1).toNat < b.toNat then 1 else if s.gpr r1 = b then 2 else 3
        pc := s.next })

/-- R124, R142, R146, R239, R247, R251, R330, R326: the compares, and TM. -/
def Obligations.Comparisons : Prop :=
  (∀ (s : State) (i : Instr) (r1 : RegNum) (b : Word),
    (((∃ r2, i = .cr r1 r2 ∧ b = s.gpr r2) ∨ (∃ x2 b2 d2, i = .c r1 x2 b2 d2 ∧ s.wordOperand d2 x2 b2 b) ∨
        (∃ x2 b2 d2, i = .ch r1 x2 b2 d2 ∧ s.halfOperand d2 x2 b2 b)) →
      exec i s = .next { s with
        cc := if s.gpr r1 = b then 0 else if (s.gpr r1).slt b then 1 else 2, pc := s.next }) ∧
    (((∃ r2, i = .clr r1 r2 ∧ b = s.gpr r2) ∨ (∃ x2 b2 d2, i = .cl r1 x2 b2 d2 ∧ s.wordOperand d2 x2 b2 b)) →
      exec i s = .next { s with
        cc := if s.gpr r1 = b then 0 else if (s.gpr r1).ult b then 1 else 2, pc := s.next })) ∧
  (∀ (s : State) (i2 : Byte) (b1 : RegNum) (d1 : Disp), s.readable (s.eab d1 b1) 1 →
    exec (.cli i2 b1 d1) s = .next { s with
      cc := if s.byteVal (s.eab d1 b1) = i2 then 0 else if (s.byteVal (s.eab d1 b1)).ult i2 then 1 else 2
      pc := s.next } ∧
    exec (.tm i2 b1 d1) s = .next { s with
      cc := if s.byteVal (s.eab d1 b1) &&& i2 = 0 then 0
        else if ~~~(s.byteVal (s.eab d1 b1)) &&& i2 = 0 then 3 else 1
      pc := s.next })

/-- R141, R143, R144, R246, R248, R249: NR, OR, XR, N, O, X. -/
def Obligations.LogicalOperations : Prop :=
  ∀ (s : State) (i : Instr) (r1 : RegNum) (b v : Word),
    (((∃ r2, i = .nr r1 r2 ∧ b = s.gpr r2) ∨ (∃ x2 b2 d2, i = .n r1 x2 b2 d2 ∧ s.wordOperand d2 x2 b2 b)) ∧
        v = s.gpr r1 &&& b ∨
      ((∃ r2, i = .or r1 r2 ∧ b = s.gpr r2) ∨ (∃ x2 b2 d2, i = .o r1 x2 b2 d2 ∧ s.wordOperand d2 x2 b2 b)) ∧
        v = s.gpr r1 ||| b ∨
      ((∃ r2, i = .xr r1 r2 ∧ b = s.gpr r2) ∨ (∃ x2 b2 d2, i = .x r1 x2 b2 d2 ∧ s.wordOperand d2 x2 b2 b)) ∧
        v = s.gpr r1 ^^^ b) →
    exec i s = .next { s with x := s.withGpr r1 v, cc := if v = 0 then 0 else 1, pc := s.next }

/-- R125, R149, R242, R254: MR and M give the 64-bit signed product of the odd register in the pair; MH gives the
low-order 32 bits. -/
def Obligations.Multiplication : Prop :=
  ∀ (s : State) (i : Instr) (r1 : RegNum) (b : Word),
    (((∃ r2, i = .mr r1 r2 ∧ b = s.gpr r2) ∨ (∃ x2 b2 d2, i = .m r1 x2 b2 d2 ∧ s.wordOperand d2 x2 b2 b)) →
      r1.toNat % 2 = 0 →
      exec i s = .next { s with
        x := s.withPair r1 ((s.gpr (r1 + 1)).signExtend 64 * b.signExtend 64), pc := s.next }) ∧
    ((∃ x2 b2 d2, i = .mh r1 x2 b2 d2 ∧ s.halfOperand d2 x2 b2 b) →
      exec i s = .next { s with x := s.withGpr r1 (s.gpr r1 * b), pc := s.next })

/-- R126, R150, R255: DR and D: remainder in R1, quotient toward zero in R1+1; a zero divisor or a quotient that does
not fit 32 bits is suppressed with DivideError. -/
def Obligations.Division : Prop :=
  ∀ (s : State) (i : Instr) (r1 : RegNum) (d : Word) (n : Int),
    ((∃ r2, i = .dr r1 r2 ∧ d = s.gpr r2) ∨ (∃ x2 b2 d2, i = .d r1 x2 b2 d2 ∧ s.wordOperand d2 x2 b2 d)) →
    r1.toNat % 2 = 0 → n = (s.gpr r1 ++ s.gpr (r1 + 1)).toInt →
    (d ≠ 0 → -2 ^ 31 ≤ n.tdiv d.toInt → n.tdiv d.toInt < 2 ^ 31 →
      exec i s = .next { s with
        x := s.withPair r1 (BitVec.ofInt 32 (n.tmod d.toInt) ++ BitVec.ofInt 32 (n.tdiv d.toInt)), pc := s.next }) ∧
    (d = 0 ∨ n.tdiv d.toInt < -2 ^ 31 ∨ 2 ^ 31 ≤ n.tdiv d.toInt → s.ifr = 0 →
      exec i s = .next (s.suppressed 26 .divideError .none))

/-- R25, R131, R235: BALR and BAL store the link word and branch; BALR with R2 = 0 does not branch. -/
def Obligations.BranchAndLink : Prop :=
  ∀ (s : State) (r1 r2 x2 b2 : RegNum) (d2 : Disp) (link : Word),
    link = BitVec.ofNat 32 (s.ilc.toNat * 2 ^ 30 + s.cc.toNat * 2 ^ 28 + s.pm.toNat * 2 ^ 24 + s.next.toNat) →
    exec (.balr r1 r2) s = .next { s with
      x := s.withGpr r1 link, pc := if r2 = 0 then s.next else BitVec.ofNat 24 (s.gpr r2).toNat } ∧
    exec (.bal r1 x2 b2 d2) s = .next { s with x := s.withGpr r1 link, pc := s.ea d2 x2 b2 }

/-- R132, R236, R315, R316: BCTR, BCT, BXH, BXLE. -/
def Obligations.CountAndIndexBranches : Prop :=
  ∀ (s : State) (r1 r2 r3 x2 b2 : RegNum) (d2 : Disp),
    exec (.bctr r1 r2) s = .next { s with
      x := s.withGpr r1 (s.gpr r1 - 1)
      pc := if s.gpr r1 = 1 ∨ r2 = 0 then s.next else BitVec.ofNat 24 (s.gpr r2).toNat } ∧
    exec (.bct r1 x2 b2 d2) s = .next { s with
      x := s.withGpr r1 (s.gpr r1 - 1), pc := if s.gpr r1 = 1 then s.next else s.ea d2 x2 b2 } ∧
    exec (.bxh r1 r3 b2 d2) s = .next { s with
      x := s.withGpr r1 (s.gpr r1 + s.gpr r3)
      pc := if (if r3.toNat % 2 = 0 then s.gpr (r3 + 1) else s.gpr r3).slt (s.gpr r1 + s.gpr r3) then s.eab d2 b2
        else s.next } ∧
    exec (.bxle r1 r3 b2 d2) s = .next { s with
      x := s.withGpr r1 (s.gpr r1 + s.gpr r3)
      pc := if (if r3.toNat % 2 = 0 then s.gpr (r3 + 1) else s.gpr r3).slt (s.gpr r1 + s.gpr r3) then s.next
        else s.eab d2 b2 }

/-- R129, R133, R237: BCR and BC branch when the mask bit of the present code is 1; BCR with R2 = 0 does not. -/
def Obligations.BranchOnCondition : Prop :=
  ∀ (s : State) (m1 r2 x2 b2 : RegNum) (d2 : Disp),
    exec (.bcr m1 r2) s = .next { s with
      pc := if m1.getLsbD (3 - s.cc.toNat) = true ∧ r2 ≠ 0 then BitVec.ofNat 24 (s.gpr r2).toNat else s.next } ∧
    exec (.bc m1 x2 b2 d2) s = .next { s with
      pc := if m1.getLsbD (3 - s.cc.toNat) = true then s.ea d2 x2 b2 else s.next }

/-- R130, R136, R432: SPM takes `cc` from bits 2-3 and `pm` from bits 4-7 of the register; SVC completes with
SupervisorCall, whose info is the I field, whatever the program mask. -/
def Obligations.ProgramMaskAndSupervisorCall : Prop :=
  (∀ (s : State) (r1 : RegNum),
      exec (.spm r1) s = .next { s with
        cc := BitVec.ofNat 2 ((s.gpr r1).toNat / 2 ^ 28), pm := BitVec.ofNat 4 ((s.gpr r1).toNat / 2 ^ 24), pc := s.next }) ∧
  (∀ (s : State) (i : Byte), s.ifr = 0 →
      exec (.svc i) s = .next ({ s with pc := s.next }.interrupted 20 .supervisorCall (.svc i)))

/-- R134, R135, R445 with the default key position: SSK and ISK when privileged, and their addressing check. -/
def Obligations.StorageKeyInstructions : Prop :=
  ∀ (s : State) (r1 r2 : RegNum) (block : Nat),
    s.cfg.privileged = true → s.cfg.keyBit = 24 → block = (s.gpr r2).toNat % 2 ^ 24 / 2048 →
    (block * 2048 < s.cfg.memSize →
      (∃ t, exec (.ssk r1 r2) s = .next t ∧ t = { s with keys := t.keys, pc := s.next } ∧
        ∀ b : Nat, t.keyAt b = if b = block then (s.gpr r1).extractLsb' 4 4 else s.keyAt b) ∧
      (∃ t, exec (.isk r1 r2) s = .next t ∧ t = { s with x := t.x, draws := t.draws, pc := s.next } ∧
        (∀ q, q ≠ r1 → t.gpr q = s.gpr q) ∧ (t.gpr r1).extractLsb' 8 24 = (s.gpr r1).extractLsb' 8 24 ∧
        (t.gpr r1).extractLsb' 4 4 = s.keyAt block)) ∧
    (s.cfg.memSize ≤ block * 2048 → s.ifr = 0 →
      exec (.ssk r1 r2) s = .next (s.suppressed 23 .addressError (.address .addressing)) ∧
      exec (.isk r1 r2) s = .next (s.suppressed 23 .addressError (.address .addressing)))

/-- R431: without `privileged` each of the 13 privileged instructions is suppressed with PrivilegedOperation. -/
def Obligations.PrivilegedOperationTraps : Prop :=
  ∀ (s : State) (i : Instr), i.privileged = true → s.cfg.privileged = false → s.ifr = 0 →
    exec i s = .next (s.suppressed 21 .privilegedOperation .none)

/-- R4 (1), R431: with `privileged` the eleven instructions to which the spec gives no semantics are refused by name. -/
def Obligations.NoSemanticsRefused : Prop :=
  ∀ (s : State) (i2 l : Byte) (b1 b2 : RegNum) (d1 d2 : Disp), s.cfg.privileged = true →
    exec (.idl i2) s = .refused (.noSemanticsInSource "IDL") ∧
    exec (.pc i2 b1 d1) s = .refused (.noSemanticsInSource "PC") ∧
    exec (.dig i2 b1 d1) s = .refused (.noSemanticsInSource "DIG") ∧
    exec (.wrd i2 b1 d1) s = .refused (.noSemanticsInSource "WRD") ∧
    exec (.rdd i2 b1 d1) s = .refused (.noSemanticsInSource "RDD") ∧
    exec (.sdv b1 d1) s = .refused (.noSemanticsInSource "SDV") ∧
    exec (.tdv b1 d1) s = .refused (.noSemanticsInSource "TDV") ∧
    exec (.hdv b1 d1) s = .refused (.noSemanticsInSource "HDV") ∧
    exec (.ckc b1 d1) s = .refused (.noSemanticsInSource "CKC") ∧
    exec (.ssp l b1 d1 b2 d2) s = .refused (.noSemanticsInSource "SSP") ∧
    exec (.lsp l b1 d1 b2 d2) s = .refused (.noSemanticsInSource "LSP")

/-- R127, R181, R407, R408, R428 (5): a register number or length that breaks its rule is suppressed with
AddressError(specification), whatever the operands are. -/
def Obligations.RegisterRulesSuppress : Prop :=
  ∀ (s : State) (i : Instr), i.wellFormed = false → s.ifr = 0 →
    exec i s = .next (s.suppressed 23 .addressError (.address .specification))

/-- R53, R56, R57, R68, R428, R435, R464: the storage operand of every RX and SI instruction: misaligned, outside storage,
or stored into a protected block, in that order, suppresses; an operand that is read and holds a byte that nothing has
given a value then refuses. That the refusal comes after protection for an operand both read and stored into is the
model's choice (DEDUCED, log 11). -/
def Obligations.OperandAddressConditions : Prop :=
  ∀ (s : State) (i : Instr) (w : Access), i.wellFormed = true → s.storageOperand i = some w → s.ifr = 0 →
    (w.addr.toNat % w.width ≠ 0 → exec i s = .next (s.suppressed 23 .addressError (.address .specification))) ∧
    (w.addr.toNat % w.width = 0 → ¬ s.field w.addr w.width →
      exec i s = .next (s.suppressed 23 .addressError (.address .addressing))) ∧
    (w.addr.toNat % w.width = 0 → s.field w.addr w.width → w.stores = true → ¬ s.openField w.addr w.width →
      exec i s = .next (s.suppressed 23 .addressError (.address .protect))) ∧
    (w.addr.toNat % w.width = 0 → s.field w.addr w.width → (w.stores = true → s.openField w.addr w.width) →
      w.reads = true → ¬ s.given w.addr w.width → exec i s = .refused .noValue)

/-- R233, R238, R250, R281, R290: IC, LH, L, LD, LE. -/
def Obligations.StorageLoads : Prop :=
  ∀ (s : State) (r1 x2 b2 : RegNum) (d2 : Disp) (a : Addr), a = s.ea d2 x2 b2 →
    (s.readable a 1 → exec (.ic r1 x2 b2 d2) s = .next { s with
      x := s.withGpr r1 ((s.gpr r1).extractLsb' 8 24 ++ s.byteVal a), pc := s.next }) ∧
    (s.readable a 2 → exec (.lh r1 x2 b2 d2) s = .next { s with
      x := s.withGpr r1 ((s.byteVal a ++ s.byteVal (a + 1)).signExtend 32), pc := s.next }) ∧
    (s.readable a 4 → exec (.l r1 x2 b2 d2) s = .next { s with x := s.withGpr r1 (s.wordAt a), pc := s.next }) ∧
    (floatRegister r1 = true →
      (s.readable a 8 → exec (.ld r1 x2 b2 d2) s = .next { s with f := s.withFpr r1 (s.doubleAt a), pc := s.next }) ∧
      (s.readable a 4 → exec (.le r1 x2 b2 d2) s = .next { s with
        f := s.withFprShort r1 (s.wordAt a), pc := s.next }))

/-- R230, R232, R245, R280, R289, R327: STH, STC, ST, STD, STE, MVI: the bytes stored, and no others. -/
def Obligations.StorageStores : Prop :=
  ∀ (s : State) (r1 x2 b2 : RegNum) (d2 : Disp) (i2 : Byte) (a a1 : Addr), a = s.ea d2 x2 b2 → a1 = s.eab d2 b2 →
    (s.writable a 2 → ∃ t, exec (.sth r1 x2 b2 d2) s = .next t ∧
      s.storedAs t a 2 ((s.gpr r1).extractLsb' 0 16)) ∧
    (s.writable a 1 → ∃ t, exec (.stc r1 x2 b2 d2) s = .next t ∧ s.storedAs t a 1 ((s.gpr r1).extractLsb' 0 8)) ∧
    (s.writable a 4 → ∃ t, exec (.st r1 x2 b2 d2) s = .next t ∧ s.storedAs t a 4 (s.gpr r1)) ∧
    (s.writable a1 1 → ∃ t, exec (.mvi i2 b2 d2) s = .next t ∧ s.storedAs t a1 1 i2) ∧
    (floatRegister r1 = true →
      (s.writable a 8 → ∃ t, exec (.std r1 x2 b2 d2) s = .next t ∧ s.storedAs t a 8 (s.fpr r1)) ∧
      (s.writable a 4 → ∃ t, exec (.ste r1 x2 b2 d2) s = .next t ∧
        s.storedAs t a 4 ((s.fpr r1).extractLsb' 32 32)))

/-- R328, R329, R331, R332: TS, NI, OI, XI: the one byte stored and the code. -/
def Obligations.ImmediateBytes : Prop :=
  ∀ (s : State) (i : Instr) (i2 : Byte) (b1 : RegNum) (d1 : Disp) (a : Addr) (u v : Byte) (c : CC),
    a = s.eab d1 b1 → s.writable a 1 → s.byteAt a = some u →
    (i = .ni i2 b1 d1 ∧ v = u &&& i2 ∧ c = (if v = 0 then 0 else 1) ∨
      i = .oi i2 b1 d1 ∧ v = u ||| i2 ∧ c = (if v = 0 then 0 else 1) ∨
      i = .xi i2 b1 d1 ∧ v = u ^^^ i2 ∧ c = (if v = 0 then 0 else 1) ∨
      i = .ts b1 d1 ∧ v = 0xFF ∧ c = (if u.msb then 1 else 0)) →
    ∃ t, exec i s = .next t ∧ t = { s with mem := t.mem, cc := c, pc := s.next } ∧
      ∀ b : Addr, t.byteAt b = if b = a then some v else s.byteAt b

/-- R317 to R320, R340: SRL, SLL, SRA, SLA by the low-order six bits of the address. -/
def Obligations.SingleShifts : Prop :=
  ∀ (s : State) (r1 b2 : RegNum) (d2 : Disp) (n : Nat) (v r : Word),
    n = (s.eab d2 b2).toNat % 64 → v = s.gpr r1 → r = (v <<< n) &&& 0x7FFFFFFF#32 ||| v &&& 0x80000000#32 →
    exec (.srl r1 b2 d2) s = .next { s with x := s.withGpr r1 (v >>> n), pc := s.next } ∧
    exec (.sll r1 b2 d2) s = .next { s with x := s.withGpr r1 (v <<< n), pc := s.next } ∧
    exec (.sra r1 b2 d2) s = .next { s with
      x := s.withGpr r1 (v.sshiftRight n), cc := signCode3 (v.sshiftRight n).toInt, pc := s.next } ∧
    (-2 ^ 31 ≤ v.toInt * 2 ^ n ∧ v.toInt * 2 ^ n < 2 ^ 31 →
      exec (.sla r1 b2 d2) s = .next { s with x := s.withGpr r1 r, cc := signCode3 r.toInt, pc := s.next }) ∧
    (¬(-2 ^ 31 ≤ v.toInt * 2 ^ n ∧ v.toInt * 2 ^ n < 2 ^ 31) → s.pm.getLsbD 3 = false →
      exec (.sla r1 b2 d2) s = .next { s with x := s.withGpr r1 r, cc := 3, pc := s.next }) ∧
    (¬(-2 ^ 31 ≤ v.toInt * 2 ^ n ∧ v.toInt * 2 ^ n < 2 ^ 31) → s.pm.getLsbD 3 = true → s.ifr = 0 →
      exec (.sla r1 b2 d2) s = .next
        ({ s with x := s.withGpr r1 r, cc := 3, pc := s.next }.interrupted 30 .fixedPointOverflow .none))

/-- R321 to R324, R340: SRDL, SLDL, SRDA, SLDA on the even-odd pair. -/
def Obligations.DoubleShifts : Prop :=
  ∀ (s : State) (r1 b2 : RegNum) (d2 : Disp) (n : Nat) (v r : DWord),
    r1.toNat % 2 = 0 → n = (s.eab d2 b2).toNat % 64 → v = s.gpr r1 ++ s.gpr (r1 + 1) →
    r = (v <<< n) &&& 0x7FFFFFFFFFFFFFFF#64 ||| v &&& 0x8000000000000000#64 →
    exec (.srdl r1 b2 d2) s = .next { s with x := s.withPair r1 (v >>> n), pc := s.next } ∧
    exec (.sldl r1 b2 d2) s = .next { s with x := s.withPair r1 (v <<< n), pc := s.next } ∧
    exec (.srda r1 b2 d2) s = .next { s with
      x := s.withPair r1 (v.sshiftRight n), cc := signCode3 (v.sshiftRight n).toInt, pc := s.next } ∧
    (-2 ^ 63 ≤ v.toInt * 2 ^ n ∧ v.toInt * 2 ^ n < 2 ^ 63 →
      exec (.slda r1 b2 d2) s = .next { s with x := s.withPair r1 r, cc := signCode3 r.toInt, pc := s.next }) ∧
    (¬(-2 ^ 63 ≤ v.toInt * 2 ^ n ∧ v.toInt * 2 ^ n < 2 ^ 63) → s.pm.getLsbD 3 = false →
      exec (.slda r1 b2 d2) s = .next { s with x := s.withPair r1 r, cc := 3, pc := s.next }) ∧
    (¬(-2 ^ 63 ≤ v.toInt * 2 ^ n ∧ v.toInt * 2 ^ n < 2 ^ 63) → s.pm.getLsbD 3 = true → s.ifr = 0 →
      exec (.slda r1 b2 d2) s = .next
        ({ s with x := s.withPair r1 r, cc := 3, pc := s.next }.interrupted 30 .fixedPointOverflow .none))

/-- R325, R333, with R68, R375, R428 and D25: LM loads the registers R1 up to R3, wrapping from 15 to 0, from consecutive
words, STM stores them; a misaligned address suppresses; an access fault terminates and frees only the result fields; LM
of a byte that nothing has given a value refuses. That any byte outside storage is addressing, although an earlier word
lies in a protected block (STM) or has no value (LM), is the model's choice (DEDUCED, log 11): R325 and R333 go word by
word, and U2 warns. Which fields a termination frees is log 8 (DEDUCED). -/
def Obligations.MultipleRegisters : Prop :=
  ∀ (s : State) (r1 r3 b2 : RegNum) (d2 : Disp) (a : Addr) (k : Nat),
    a = s.eab d2 b2 → k = (r3 - r1).toNat + 1 →
    (a.toNat % 4 = 0 → s.field a (4 * k) → s.given a (4 * k) →
      ∃ t, exec (.lm r1 r3 b2 d2) s = .next t ∧ t = { s with x := t.x, pc := s.next } ∧
        ∀ q : RegNum, t.gpr q = if (q - r1).toNat < k then s.wordAt (a + BitVec.ofNat 24 (4 * (q - r1).toNat))
          else s.gpr q) ∧
    (a.toNat % 4 = 0 → s.field a (4 * k) → ¬ s.given a (4 * k) →
      exec (.lm r1 r3 b2 d2) s = .refused .noValue) ∧
    (a.toNat % 4 = 0 → s.openField a (4 * k) →
      ∃ t, exec (.stm r1 r3 b2 d2) s = .next t ∧ t = { s with mem := t.mem, pc := s.next } ∧
        ∀ b : Addr, t.byteAt b = if (b - a).toNat < 4 * k then
          some (byteOf (s.gpr (r1 + BitVec.ofNat 4 ((b - a).toNat / 4))) 4 ((b - a).toNat % 4)) else s.byteAt b) ∧
    (a.toNat % 4 ≠ 0 → s.ifr = 0 →
      exec (.lm r1 r3 b2 d2) s = .next (s.suppressed 23 .addressError (.address .specification)) ∧
      exec (.stm r1 r3 b2 d2) s = .next (s.suppressed 23 .addressError (.address .specification))) ∧
    (a.toNat % 4 = 0 → ¬ s.field a (4 * k) → s.ifr = 0 →
      (∃ t, exec (.lm r1 r3 b2 d2) s = .next t ∧
        t = { s with x := t.x, draws := t.draws, pc := s.next }.interrupted 23 .addressError (.address .addressing) ∧
        ∀ q : RegNum, k ≤ (q - r1).toNat → t.gpr q = s.gpr q) ∧
      (∃ t, exec (.stm r1 r3 b2 d2) s = .next t ∧ t.cc = s.cc ∧
        s.terminatedField t a (4 * k) 23 .addressError (.address .addressing))) ∧
    (a.toNat % 4 = 0 → s.field a (4 * k) → ¬ s.openField a (4 * k) → s.ifr = 0 →
      ∃ t, exec (.stm r1 r3 b2 d2) s = .next t ∧ t.cc = s.cc ∧
        s.terminatedField t a (4 * k) 23 .addressError (.address .protect))

/-- R361 to R364, R366, R367, R374, R375, R428: MVN, MVC, MVZ, NC, OC, XC: each byte of the first operand, left to right,
from itself and from the second operand's byte as it then stands, however the operands overlap; an access fault
terminates and frees only the first operand and the code of NC, OC, XC; a byte read that nothing has given a value
refuses. That the addressing of every byte of both operands comes before protection, and both before a byte without
value, is the model's choice (DEDUCED, log 11): R375 handles the operands byte by byte, R428 orders the conditions. Which
fields a termination frees is log 8 (DEDUCED). -/
def Obligations.FieldOperations : Prop :=
  ∀ (s : State) (i : Instr) (w : FieldForm), s.fieldForm i = some w →
    (s.openField w.a1 w.n → s.field w.a2 w.n → (w.readsFirst = true → s.given w.a1 w.n) →
      (∀ j < w.n, s.givenRightward w.a1 j (w.a2 + BitVec.ofNat 24 j)) →
      ∃ t, exec i s = .next t ∧
        (∀ j < w.n, t.byteAt (w.a1 + BitVec.ofNat 24 j) =
          some (w.op (s.byteVal (w.a1 + BitVec.ofNat 24 j)) (seenRightward s t w.a1 j (w.a2 + BitVec.ofNat 24 j)))) ∧
        (∀ b : Addr, w.n ≤ (b - w.a1).toNat → t.byteAt b = s.byteAt b) ∧
        t = { s with mem := t.mem, cc := t.cc, pc := s.next } ∧
        (w.setsCC = false → t.cc = s.cc) ∧
        (w.setsCC = true → t.cc = 0 ∧ (∀ j < w.n, t.byteVal (w.a1 + BitVec.ofNat 24 j) = 0) ∨
          t.cc = 1 ∧ ∃ j < w.n, t.byteVal (w.a1 + BitVec.ofNat 24 j) ≠ 0)) ∧
    (s.openField w.a1 w.n → s.field w.a2 w.n →
      w.readsFirst = true ∧ ¬ s.given w.a1 w.n ∨ ¬ (∀ j < w.n, s.givenRightward w.a1 j (w.a2 + BitVec.ofNat 24 j)) →
      exec i s = .refused .noValue) ∧
    (s.ifr = 0 → ¬ (s.field w.a1 w.n ∧ s.field w.a2 w.n) →
      ∃ t, exec i s = .next t ∧ s.terminatedField t w.a1 w.n 23 .addressError (.address .addressing) ∧
        (w.setsCC = false → t.cc = s.cc)) ∧
    (s.ifr = 0 → s.field w.a1 w.n → s.field w.a2 w.n → ¬ s.openField w.a1 w.n →
      ∃ t, exec i s = .next t ∧ s.terminatedField t w.a1 w.n 23 .addressError (.address .protect) ∧
        (w.setsCC = false → t.cc = s.cc))

/-- R365, R370, R375, R428, R435: CLC decides at the first unequal pair of bytes; TRT stops at the first argument byte whose
function byte is not zero. A byte of CLC outside storage, and the first argument or function byte of TRT outside storage
that the scan meets, terminate with AddressError(addressing): only `cc` and, for TRT, bits 8-31 of register 1 and bits
24-31 of register 2 may hold any value. A byte read that nothing has given a value refuses. Three things are the model's
choice (DEDUCED): that the addressing of every byte of both operands of CLC comes before a byte without value, though R365
reads the first operand first (log 11); that CLC reads every byte of both (log 21); which fields a termination frees and
keeps (log 8). -/
def Obligations.FieldTests : Prop :=
  ∀ (s : State) (l : Byte) (b1 b2 : RegNum) (d1 d2 : Disp) (a1 a2 : Addr) (n : Nat) (fn : Nat → Addr),
    a1 = s.eab d1 b1 → a2 = s.eab d2 b2 → n = l.toNat + 1 →
    (∀ j, fn j = a2 + BitVec.ofNat 24 (s.byteVal (a1 + BitVec.ofNat 24 j)).toNat) →
    (s.field a1 n → s.field a2 n → s.given a1 n → s.given a2 n →
      ((∀ j < n, s.byteVal (a1 + BitVec.ofNat 24 j) = s.byteVal (a2 + BitVec.ofNat 24 j)) →
        exec (.clc l b1 d1 b2 d2) s = .next { s with cc := 0, pc := s.next }) ∧
      (∀ k < n, (∀ j < k, s.byteVal (a1 + BitVec.ofNat 24 j) = s.byteVal (a2 + BitVec.ofNat 24 j)) →
        s.byteVal (a1 + BitVec.ofNat 24 k) ≠ s.byteVal (a2 + BitVec.ofNat 24 k) →
        exec (.clc l b1 d1 b2 d2) s = .next { s with
          cc := if (s.byteVal (a1 + BitVec.ofNat 24 k)).ult (s.byteVal (a2 + BitVec.ofNat 24 k)) then 1 else 2
          pc := s.next })) ∧
    (¬ (s.field a1 n ∧ s.field a2 n) → s.ifr = 0 →
      ∃ t, exec (.clc l b1 d1 b2 d2) s = .next t ∧ s.terminatedField t a1 0 23 .addressError (.address .addressing)) ∧
    (s.field a1 n → s.field a2 n → ¬ (s.given a1 n ∧ s.given a2 n) →
      exec (.clc l b1 d1 b2 d2) s = .refused .noValue) ∧
    (s.field a1 n → s.given a1 n →
      (∀ j < n, (fn j).toNat < s.cfg.memSize ∧ s.byteAt (fn j) = some 0) →
      exec (.trt l b1 d1 b2 d2) s = .next { s with cc := 0, pc := s.next }) ∧
    (∀ k < n, s.field a1 k → s.given a1 k →
      (∀ j < k, (fn j).toNat < s.cfg.memSize ∧ s.byteAt (fn j) = some 0) →
      (∀ f : Byte, s.field a1 (k + 1) → s.given a1 (k + 1) → (fn k).toNat < s.cfg.memSize → s.byteAt (fn k) = some f →
        f ≠ 0 →
        exec (.trt l b1 d1 b2 d2) s = .next { s with
          x := (s.withGpr 1 ((s.gpr 1).extractLsb' 24 8 ++ (a1 + BitVec.ofNat 24 k))).set 2
            ((s.gpr 2).extractLsb' 8 24 ++ f)
          cc := if k + 1 = n then 2 else 1
          pc := s.next }) ∧
      (¬ s.field a1 (k + 1) ∨ s.given a1 (k + 1) ∧ s.cfg.memSize ≤ (fn k).toNat → s.ifr = 0 →
        ∃ t, exec (.trt l b1 d1 b2 d2) s = .next t ∧
          { s with x := t.x }.terminatedField t a1 0 23 .addressError (.address .addressing) ∧
          (∀ q : RegNum, q ≠ 1 → q ≠ 2 → t.gpr q = s.gpr q) ∧
          (t.gpr 1).extractLsb' 24 8 = (s.gpr 1).extractLsb' 24 8 ∧
          (t.gpr 2).extractLsb' 8 24 = (s.gpr 2).extractLsb' 8 24) ∧
      (s.field a1 (k + 1) →
        ¬ s.given a1 (k + 1) ∨ (fn k).toNat < s.cfg.memSize ∧ s.byteAt (fn k) = none →
        exec (.trt l b1 d1 b2 d2) s = .refused .noValue))

/-- R369, R375, R428, R435: TR replaces each byte of the first operand, left to right, by the table byte it indexes, as
the table then stands; only the table bytes indexed need lie in storage. A byte of the first operand outside storage, the
first table byte outside storage that is met, and a protected byte of the first operand terminate, with the first operand
free; a byte read that nothing has given a value refuses. That the addressing of every byte of the first operand and of
the table bytes met comes before protection, and both before a byte without value, is the model's choice (DEDUCED, log 11):
R375 goes byte by byte. Which fields a termination frees is log 8 (DEDUCED). -/
def Obligations.Translation : Prop :=
  ∀ (s : State) (l : Byte) (b1 b2 : RegNum) (d1 d2 : Disp) (a1 a2 : Addr) (n : Nat) (fn : Nat → Addr)
    (ready : Nat → Prop),
    a1 = s.eab d1 b1 → a2 = s.eab d2 b2 → n = l.toNat + 1 →
    (∀ j, fn j = a2 + BitVec.ofNat 24 (s.byteVal (a1 + BitVec.ofNat 24 j)).toNat) →
    (∀ k, ready k ↔ s.given a1 k ∧ ∀ j < k, (fn j).toNat < s.cfg.memSize ∧ s.givenRightward a1 j (fn j)) →
    (s.openField a1 n → ready n →
      ∃ t, exec (.tr l b1 d1 b2 d2) s = .next t ∧ t = { s with mem := t.mem, pc := s.next } ∧
        (∀ j < n, t.byteAt (a1 + BitVec.ofNat 24 j) = some (seenRightward s t a1 j (fn j))) ∧
        ∀ b : Addr, n ≤ (b - a1).toNat → t.byteAt b = s.byteAt b) ∧
    (s.ifr = 0 →
      ¬ s.field a1 n ∨ (∃ k < n, ready k ∧ s.given a1 (k + 1) ∧ s.cfg.memSize ≤ (fn k).toNat) →
      ∃ t, exec (.tr l b1 d1 b2 d2) s = .next t ∧ t.cc = s.cc ∧
        s.terminatedField t a1 n 23 .addressError (.address .addressing)) ∧
    (s.ifr = 0 → s.field a1 n → ¬ s.openField a1 n → s.given a1 n → (∀ j < n, (fn j).toNat < s.cfg.memSize) →
      ∃ t, exec (.tr l b1 d1 b2 d2) s = .next t ∧ t.cc = s.cc ∧
        s.terminatedField t a1 n 23 .addressError (.address .protect)) ∧
    (∀ k < n, s.openField a1 n → ready k →
      ¬ s.given a1 (k + 1) ∨ (fn k).toNat < s.cfg.memSize ∧ ¬ s.givenRightward a1 k (fn k) →
      exec (.tr l b1 d1 b2 d2) s = .refused .noValue)

/-- R371 to R373: an edit that meets no fault completes for ED and EDMK alike: it leaves every byte outside the first
operand, each result byte is the pattern byte, the fill character or a zoned digit, EDMK marks only addresses of the
field. Then what R373 gives single patterns: no digit byte (all fill, code 0); two digit selects; a significance starter
and a digit select; a digit select over a digit and any right half-byte, sign or digit, with an insertion character behind
it, which is kept while significance is on (code 1 after a minus sign or a digit, 2 after a plus sign); two fields of one
signed digit with a field separator between them. -/
def Obligations.Editing : Prop :=
  ∀ (s : State) (i : Instr) (mark : Bool) (l : Byte) (b1 b2 : RegNum) (d1 d2 : Disp) (a1 a2 : Addr) (n : Nat),
    i = .ed l b1 d1 b2 d2 ∧ mark = false ∨ i = .edmk l b1 d1 b2 d2 ∧ mark = true →
    a1 = s.eab d1 b1 → a2 = s.eab d2 b2 → n = l.toNat + 1 →
    (∀ e, s.edit n a1 a2 = .ok e →
      ∃ t u, exec (.ed l b1 d1 b2 d2) s = .next t ∧ exec (.edmk l b1 d1 b2 d2) s = .next u ∧
        t = { s with mem := t.mem, cc := t.cc, pc := s.next } ∧ u = { t with x := u.x } ∧ t.cc ≠ 3 ∧
        (∀ q : RegNum, q ≠ 1 → u.gpr q = s.gpr q) ∧
        (u.gpr 1 = s.gpr 1 ∨ ∃ j < n, u.gpr 1 = (s.gpr 1).extractLsb' 24 8 ++ (a1 + BitVec.ofNat 24 j)) ∧
        (∀ b : Addr, n ≤ (b - a1).toNat → t.byteAt b = s.byteAt b) ∧
        (∀ j < n, t.byteAt (a1 + BitVec.ofNat 24 j) = s.byteAt (a1 + BitVec.ofNat 24 j) ∨
          t.byteAt (a1 + BitVec.ofNat 24 j) = s.byteAt a1 ∨
          ∃ g : Fin 16, t.byteAt (a1 + BitVec.ofNat 24 j) = some (s.zoned g))) ∧
    (s.openField a1 n → s.given a1 n → s.digitBytes a1 n = 0 →
      ∃ t, s.editCompletes t i a1 n 0 s.x ∧ ∀ j < n, t.byteAt (a1 + BitVec.ofNat 24 j) = s.byteAt a1) ∧
    (∀ (f : Byte) (h g : Fin 10), s.openField a1 n → f ≠ 0x20 → f ≠ 0x21 → s.byteAt a1 = some f →
      s.byteAt (a1 + 2) = some 0x20 → s.byteAt a2 = some (BitVec.ofNat 8 (16 * h + g)) → a2.toNat < s.cfg.memSize →
      l = 2 → 3 ≤ (a2 - a1).toNat →
      (s.byteAt (a1 + 1) = some 0x20 →
        ∃ t, s.editCompletes t i a1 n (if h = 0 ∧ g = 0 then 0 else 1)
            (if mark = true ∧ h ≠ 0 then s.withMark (a1 + 1) else if mark = true ∧ g ≠ 0 then s.withMark (a1 + 2)
              else s.x) ∧
          t.byteAt a1 = some f ∧ t.byteAt (a1 + 1) = some (if h = 0 then f else s.zoned h) ∧
          t.byteAt (a1 + 2) = some (if h = 0 ∧ g = 0 then f else s.zoned g)) ∧
      (s.byteAt (a1 + 1) = some 0x21 →
        ∃ t, s.editCompletes t i a1 n (if h = 0 ∧ g = 0 then 0 else 1)
            (if mark = true ∧ h ≠ 0 then s.withMark (a1 + 1) else s.x) ∧
          t.byteAt a1 = some f ∧ t.byteAt (a1 + 1) = some (if h = 0 then f else s.zoned h) ∧
          t.byteAt (a1 + 2) = some (s.zoned g))) ∧
    (∀ (f c : Byte) (h : Fin 10) (g : Fin 16) (plus : Bool), s.openField a1 n → f ≠ 0x20 → f ≠ 0x21 →
      c ≠ 0x20 → c ≠ 0x21 → c ≠ 0x22 → s.byteAt a1 = some f → s.byteAt (a1 + 1) = some 0x20 →
      s.byteAt (a1 + 2) = some c → s.byteAt a2 = some (BitVec.ofNat 8 (16 * h + g)) → a2.toNat < s.cfg.memSize →
      l = 2 → 3 ≤ (a2 - a1).toNat → plus = (g == 10 || g == 12 || g == 14 || g == 15) →
      ∃ t, s.editCompletes t i a1 n (if h = 0 then 0 else if plus = true then 2 else 1)
          (if mark = true ∧ h ≠ 0 then s.withMark (a1 + 1) else s.x) ∧
        t.byteAt a1 = some f ∧ t.byteAt (a1 + 1) = some (if h = 0 then f else s.zoned h) ∧
        t.byteAt (a1 + 2) = some (if h ≠ 0 ∧ plus = false then c else f)) ∧
    (∀ (f : Byte) (h k : Fin 10) (g m : Fin 16) (plus : Bool), s.openField a1 n → f ≠ 0x20 → f ≠ 0x21 →
      s.byteAt a1 = some f → s.byteAt (a1 + 1) = some 0x20 → s.byteAt (a1 + 2) = some 0x22 →
      s.byteAt (a1 + 3) = some 0x20 → s.byteAt a2 = some (BitVec.ofNat 8 (16 * h + g)) →
      s.byteAt (a2 + 1) = some (BitVec.ofNat 8 (16 * k + m)) → 10 ≤ g.val → 10 ≤ m.val → s.field a2 2 →
      l = 3 → 4 ≤ (a2 - a1).toNat → 4 ≤ (a2 + 1 - a1).toNat → plus = (m == 10 || m == 12 || m == 14 || m == 15) →
      ∃ t, s.editCompletes t i a1 n (if k = 0 then 0 else if plus = true then 2 else 1)
          (if mark = true ∧ k ≠ 0 then s.withMark (a1 + 3) else if mark = true ∧ h ≠ 0 then s.withMark (a1 + 1)
            else s.x) ∧
        t.byteAt a1 = some f ∧ t.byteAt (a1 + 1) = some (if h = 0 then f else s.zoned h) ∧ t.byteAt (a1 + 2) = some f ∧
        t.byteAt (a1 + 3) = some (if k = 0 then f else s.zoned k))

/-- R373, R375, R428, R436: an edit that stops is terminated with DataError or AddressError, only the result fields
changed, or refused where a byte has no value. Then when it stops, in terms of the state: a pattern outside storage; at
the pattern byte `k`, a digit byte with `2q` digit bytes before it, all of which took their digits from the `q` whole
source bytes at `a2`, the next source byte outside storage (addressing) or with a left half-byte above 9 (DataError, but
AddressError(protect) where a pattern byte from `k` on is protected); a pattern without digit byte in a protected block
(protect). What comes first of addressing, protection, data and a byte without value is the model's reading of R428
(DEDUCED, log 11), and which fields a termination frees is log 8 (DEDUCED). -/
def Obligations.EditTerminations : Prop :=
  ∀ (s : State) (i : Instr) (mark : Bool) (l : Byte) (b1 b2 : RegNum) (d1 d2 : Disp) (a1 a2 : Addr) (n : Nat),
    i = .ed l b1 d1 b2 d2 ∧ mark = false ∨ i = .edmk l b1 d1 b2 d2 ∧ mark = true →
    a1 = s.eab d1 b1 → a2 = s.eab d2 b2 → n = l.toNat + 1 →
    (s.ifr = 0 → ∀ c, s.edit n a1 a2 = .error (.address c) →
      s.editTerminates i mark a1 n 23 .addressError (.address c)) ∧
    (s.ifr = 0 → s.edit n a1 a2 = .error .data → s.editTerminates i mark a1 n 24 .dataError .none) ∧
    (s.edit n a1 a2 = .error .noValue → exec i s = .refused .noValue) ∧
    (s.ifr = 0 → ¬ s.field a1 n → s.editTerminates i mark a1 n 23 .addressError (.address .addressing)) ∧
    (s.ifr = 0 → s.field a1 n → ¬ s.openField a1 n → s.given a1 n → s.digitBytes a1 n = 0 →
      s.editTerminates i mark a1 n 23 .addressError (.address .protect)) ∧
    (∀ k q : Nat, s.ifr = 0 → k < n → s.field a1 n → s.given a1 (k + 1) →
      s.digitBytes a1 k = 2 * q → s.digitBytes a1 (k + 1) = 2 * q + 1 →
      (∀ p < q, (a2 + BitVec.ofNat 24 p).toNat < s.cfg.memSize ∧ n ≤ (a2 + BitVec.ofNat 24 p - a1).toNat ∧
        s.byteAt (a2 + BitVec.ofNat 24 p) ≠ none ∧ s.halfByte a2 (2 * p) ≤ 9 ∧ s.halfByte a2 (2 * p + 1) ≤ 9) →
      (s.cfg.memSize ≤ (a2 + BitVec.ofNat 24 q).toNat →
        s.editTerminates i mark a1 n 23 .addressError (.address .addressing)) ∧
      ((a2 + BitVec.ofNat 24 q).toNat < s.cfg.memSize → n ≤ (a2 + BitVec.ofNat 24 q - a1).toNat →
        s.byteAt (a2 + BitVec.ofNat 24 q) ≠ none → 9 < s.halfByte a2 (2 * q) →
        (s.openField a1 n → s.editTerminates i mark a1 n 24 .dataError .none) ∧
        ((∃ j < n, k ≤ j ∧ ¬ s.unprotected (a1 + BitVec.ofNat 24 j)) →
          s.editTerminates i mark a1 n 23 .addressError (.address .protect))))

/-- R243, R244, R390: CVD stores the 15 digits and a sign, CVB reads them; a value that does not fit is written modulo
2^32 and raises DivideError; an invalid digit or sign suppresses with DataError. -/
def Obligations.DecimalConversion : Prop :=
  ∀ (s : State) (r1 x2 b2 : RegNum) (d2 : Disp) (a : Addr), a = s.ea d2 x2 b2 →
    (s.writable a 8 →
      ∃ t, exec (.cvd r1 x2 b2 d2) s = .next t ∧ t = { s with mem := t.mem, pc := s.next } ∧
        t.given a 8 ∧ (∀ j < 7, (t.byteVal (a + BitVec.ofNat 24 j)).toNat =
          (s.gpr r1).toInt.natAbs / 10 ^ (14 - 2 * j) % 10 * 16 + (s.gpr r1).toInt.natAbs / 10 ^ (13 - 2 * j) % 10) ∧
        (t.byteVal (a + 7)).toNat = (s.gpr r1).toInt.natAbs % 10 * 16 +
          (if s.cfg.asciiMode then (if (s.gpr r1).msb then 0xB else 0xA)
            else (if (s.gpr r1).msb then 0xD else 0xC)) ∧
        ∀ b : Addr, 8 ≤ (b - a).toNat → t.byteAt b = s.byteAt b) ∧
    (s.readable a 8 →
      (∀ d, s.decAt a 8 = .ok d → -2 ^ 31 ≤ d.value → d.value < 2 ^ 31 →
        exec (.cvb r1 x2 b2 d2) s = .next { s with x := s.withGpr r1 (BitVec.ofInt 32 d.value), pc := s.next }) ∧
      (∀ d, s.decAt a 8 = .ok d → ¬(-2 ^ 31 ≤ d.value ∧ d.value < 2 ^ 31) → s.ifr = 0 →
        exec (.cvb r1 x2 b2 d2) s = .next
          ({ s with x := s.withGpr r1 (BitVec.ofInt 32 d.value), pc := s.next }.interrupted 26 .divideError .none)) ∧
      (s.decAt a 8 = .error .data → s.ifr = 0 → exec (.cvb r1 x2 b2 d2) s = .next (s.suppressed 24 .dataError .none)))

/-- R390, R392: the number a packed field stands for: its digits in order and its sign code, and DataError where a digit is
above 9 or the sign below 10. -/
def Obligations.PackedFieldValue : Prop :=
  (∀ (n h : Nat) (ds : List Nat), 1 ≤ n → ds.length = 2 * n - 1 → (∀ d ∈ ds, d < 16) → h < 16 →
    decParse n (ds.foldl (fun v d => 16 * v + d) 0 * 16 + h) =
      if (∀ d ∈ ds, d ≤ 9) ∧ 10 ≤ h then
        some { mag := ds.foldl (fun v d => 10 * v + d) 0, neg := h == 11 || h == 13 }
      else none) ∧
  (∀ (s : State) (a : Addr) (n : Nat), 1 ≤ n → s.given a n →
    (s.invalidPacked a n → s.decAt a n = .error .data) ∧
    (¬ s.invalidPacked a n → s.decAt a n = .ok
      { mag := (List.range (2 * n - 1)).foldl (fun v i => 10 * v + s.halfByte a i) 0
        neg := s.halfByte a (2 * n - 1) == 11 || s.halfByte a (2 * n - 1) == 13 }))

/-- R393, R396, R400 to R402, R428: MVO, PACK, UNPK: each result byte, right to left, from the source bytes as they then stand,
however the fields overlap; zeros fill on the left; only the source bytes that are needed are accessed. A byte outside
storage, then a protected byte of the first operand, terminates with the first operand free; a byte read that nothing has
given a value refuses. Which value an overlapped source byte has is the model's choice (DEDUCED, log 10; R393 and R400 to
R402 differ): MVO keeps the byte it fetched at the step before for its upper half, UNPK fetches `S(k / 2)` again at an even
step `k`. The order of the stops is the model's choice too (DEDUCED, log 11): the addressing of every needed byte of both
operands, then protection, then a byte without value, where R393 goes byte by byte from right to left and R428 orders the
conditions alone. Which fields a termination frees is log 8 (DEDUCED). -/
def Obligations.DecimalMoves : Prop :=
  ∀ (s : State) (i : Instr) (w : MoveForm) (e1 e2 : Addr) (inside : Prop) (ready : Prop), s.moveForm i = some w →
    e1 = w.a1 + BitVec.ofNat 24 w.l1 → e2 = w.a2 + BitVec.ofNat 24 w.l2 →
    (inside ↔ s.field w.a1 (w.l1 + 1) ∧
      ∀ k ≤ w.l1, ∀ j ∈ w.needs k, j ≤ w.l2 → (e2 - BitVec.ofNat 24 j).toNat < s.cfg.memSize) →
    (ready ↔ (w.readsFirst = true → s.byteAt e1 ≠ none) ∧
      ∀ k ≤ w.l1, ∀ j ∈ w.needs k, j ≤ w.l2 → s.givenLeftward e1 k (e2 - BitVec.ofNat 24 j)) →
    (inside → s.openField w.a1 (w.l1 + 1) → ready →
      ∃ t, exec i s = .next t ∧ t = { s with mem := t.mem, pc := s.next } ∧
        (∀ b : Addr, w.l1 + 1 ≤ (b - w.a1).toNat → t.byteAt b = s.byteAt b) ∧
        ∀ k ≤ w.l1, t.byteAt (e1 - BitVec.ofNat 24 k) = some (w.result (s.byteVal e1)
          (fun j p => if p ≤ w.l2 then seenLeftward s t e1 j (e2 - BitVec.ofNat 24 p) else 0) k)) ∧
    (inside → s.openField w.a1 (w.l1 + 1) → ¬ ready → exec i s = .refused .noValue) ∧
    (s.ifr = 0 → ¬ inside →
      ∃ t, exec i s = .next t ∧ t.cc = s.cc ∧
        s.terminatedField t w.a1 (w.l1 + 1) 23 .addressError (.address .addressing)) ∧
    (s.ifr = 0 → inside → ¬ s.openField w.a1 (w.l1 + 1) →
      ∃ t, exec i s = .next t ∧ t.cc = s.cc ∧
        s.terminatedField t w.a1 (w.l1 + 1) 23 .addressError (.address .protect))

/-- R68, R390, R392 to R396, R403 to R406, R428, R436: ZAP, AP, SP store the low digits of the exact result with its sign, as a
generated sign code, and set the code; on overflow the code is 3 and DecimalOverflow is raised where `pm{1}` is 1; CP sets
the code of the difference and stores nothing. ZAP whose first operand's rightmost byte lies left of the second's inside it
gives any field and code (R393, log 9). An invalid digit or sign in an operand that is read ends in DataError, a byte
outside storage or a protected first operand in AddressError, terminated with the first operand (not for CP) and the code
free; a byte read that nothing has given a value refuses. The order of the stops is the model's choice (DEDUCED, log 11):
the addressing of both operands, then protection, then the values, those of the first operand before those of the second,
though R392 reads the values first and R428 does not place a byte without value. Which fields a termination frees is log 8
(DEDUCED). -/
def Obligations.DecimalArithmetic : Prop :=
  ∀ (s : State) (i : Instr) (w : DecimalForm), s.decimalForm i = some w →
    (∀ (p q : Dec) (v : Int), s.field w.a1 w.n1 → s.field w.a2 w.n2 → (w.stores = true → s.openField w.a1 w.n1) →
      (w.readsFirst = true → s.decAt w.a1 w.n1 = .ok p) → s.decAt w.a2 w.n2 = .ok q → v = w.value p.value q.value →
      (w.stores = false → exec i s = .next { s with cc := signCode3 v, pc := s.next }) ∧
      (w.stores = true → w.readsFirst = true ∨ w.n2 ≤ (w.a1 + BitVec.ofNat 24 (w.n1 - 1) - w.a2).toNat + 1 →
        ∃ t, exec i s = .next t ∧
          t.decAt w.a1 w.n1 = .ok { mag := v.natAbs % 10 ^ (2 * w.n1 - 1), neg := decide (v < 0) } ∧
          t.halfByte w.a1 (2 * w.n1 - 1) = s.generatedSign (decide (v < 0)) ∧
          (∀ b : Addr, w.n1 ≤ (b - w.a1).toNat → t.byteAt b = s.byteAt b) ∧
          (v.natAbs < 10 ^ (2 * w.n1 - 1) → t = { s with mem := t.mem, cc := signCode3 v, pc := s.next }) ∧
          (10 ^ (2 * w.n1 - 1) ≤ v.natAbs → s.pm.getLsbD 2 = false →
            t = { s with mem := t.mem, cc := 3, pc := s.next }) ∧
          (10 ^ (2 * w.n1 - 1) ≤ v.natAbs → s.pm.getLsbD 2 = true → s.ifr = 0 →
            t = { s with mem := t.mem, cc := 3, pc := s.next }.interrupted 29 .decimalOverflow .none)) ∧
      (w.readsFirst = false → (w.a1 + BitVec.ofNat 24 (w.n1 - 1) - w.a2).toNat + 1 < w.n2 →
        v.natAbs < 10 ^ (2 * w.n1 - 1) →
        ∃ t, exec i s = .next t ∧ t = { s with mem := t.mem, cc := t.cc, draws := t.draws, pc := s.next } ∧
          ∀ b : Addr, w.n1 ≤ (b - w.a1).toNat → t.byteAt b = s.byteAt b)) ∧
    (s.ifr = 0 → s.field w.a1 w.n1 → s.field w.a2 w.n2 → (w.stores = true → s.openField w.a1 w.n1) →
      (w.readsFirst = true → s.given w.a1 w.n1) → s.given w.a2 w.n2 →
      w.readsFirst = true ∧ s.invalidPacked w.a1 w.n1 ∨ s.invalidPacked w.a2 w.n2 →
      ∃ t, exec i s = .next t ∧
        s.terminatedField t w.a1 (if w.stores = true then w.n1 else 0) 24 .dataError .none) ∧
    (s.ifr = 0 → ¬ (s.field w.a1 w.n1 ∧ s.field w.a2 w.n2) →
      ∃ t, exec i s = .next t ∧
        s.terminatedField t w.a1 (if w.stores = true then w.n1 else 0) 23 .addressError (.address .addressing)) ∧
    (s.ifr = 0 → s.field w.a1 w.n1 → s.field w.a2 w.n2 → w.stores = true → ¬ s.openField w.a1 w.n1 →
      ∃ t, exec i s = .next t ∧ s.terminatedField t w.a1 w.n1 23 .addressError (.address .protect)) ∧
    (s.field w.a1 w.n1 → s.field w.a2 w.n2 → (w.stores = true → s.openField w.a1 w.n1) →
      w.readsFirst = true ∧ ¬ s.given w.a1 w.n1 ∨
        (w.readsFirst = true → s.given w.a1 w.n1 ∧ ¬ s.invalidPacked w.a1 w.n1) ∧ ¬ s.given w.a2 w.n2 →
      exec i s = .refused .noValue)

/-- R68, R390, R392, R393, R396, R407, R408, R428, R436: MP and DP: magnitudes by exact arithmetic, signs by the rule of signs even
for zero, as generated sign codes, quotient left of remainder; a zero divisor or a quotient too long is suppressed with
DivideError. Too few leading zero bytes of the multiplicand, and an invalid digit or sign in either operand of MP or DP,
end in DataError, a byte outside storage or a protected first operand in AddressError, terminated with the first operand
free and the code kept (log 8); a byte that nothing has given a value refuses. The order of the stops is the model's choice
(DEDUCED, log 11): the addressing of both operands, then protection, then the values, those of the first operand before
those of the second, though R392 reads the values first and R428 does not place a byte without value. -/
def Obligations.DecimalProducts : Prop :=
  ∀ (s : State) (i : Instr) (l1 l2 b1 b2 : RegNum) (d1 d2 : Disp) (a1 a2 : Addr) (n1 n2 : Nat),
    i = .mp l1 l2 b1 d1 b2 d2 ∨ i = .dp l1 l2 b1 d1 b2 d2 →
    a1 = s.eab d1 b1 → a2 = s.eab d2 b2 → n1 = l1.toNat + 1 → n2 = l2.toNat + 1 → l2.toNat ≤ 7 → l2.toNat < l1.toNat →
    (∀ p q : Dec, s.openField a1 n1 → s.field a2 n2 → s.decAt a1 n1 = .ok p → s.decAt a2 n2 = .ok q →
      ((∀ j < n2, s.byteVal (a1 + BitVec.ofNat 24 j) = 0) →
        ∃ t, exec (.mp l1 l2 b1 d1 b2 d2) s = .next t ∧ t = { s with mem := t.mem, pc := s.next } ∧
          t.decAt a1 n1 = .ok { mag := p.mag * q.mag, neg := xor p.neg q.neg } ∧
          t.halfByte a1 (2 * n1 - 1) = s.generatedSign (xor p.neg q.neg) ∧
          ∀ b : Addr, n1 ≤ (b - a1).toNat → t.byteAt b = s.byteAt b) ∧
      (¬(∀ j < n2, s.byteVal (a1 + BitVec.ofNat 24 j) = 0) → s.ifr = 0 →
        ∃ t, exec (.mp l1 l2 b1 d1 b2 d2) s = .next t ∧ t.cc = s.cc ∧ s.terminatedField t a1 n1 24 .dataError .none) ∧
      (q.mag ≠ 0 → p.mag / q.mag < 10 ^ (2 * (n1 - n2) - 1) →
        ∃ t, exec (.dp l1 l2 b1 d1 b2 d2) s = .next t ∧ t = { s with mem := t.mem, pc := s.next } ∧
          t.decAt a1 (n1 - n2) = .ok { mag := p.mag / q.mag, neg := xor p.neg q.neg } ∧
          t.halfByte a1 (2 * (n1 - n2) - 1) = s.generatedSign (xor p.neg q.neg) ∧
          t.decAt (a1 + BitVec.ofNat 24 (n1 - n2)) n2 = .ok { mag := p.mag % q.mag, neg := p.neg } ∧
          t.halfByte a1 (2 * n1 - 1) = s.generatedSign p.neg ∧
          ∀ b : Addr, n1 ≤ (b - a1).toNat → t.byteAt b = s.byteAt b) ∧
      (q.mag = 0 ∨ 10 ^ (2 * (n1 - n2) - 1) ≤ p.mag / q.mag → s.ifr = 0 →
        exec (.dp l1 l2 b1 d1 b2 d2) s = .next (s.suppressed 26 .divideError .none))) ∧
    (s.ifr = 0 → s.openField a1 n1 → s.field a2 n2 → s.given a1 n1 → s.given a2 n2 →
      s.invalidPacked a1 n1 ∨ s.invalidPacked a2 n2 →
      ∃ t, exec i s = .next t ∧ t.cc = s.cc ∧ s.terminatedField t a1 n1 24 .dataError .none) ∧
    (s.ifr = 0 → ¬ (s.field a1 n1 ∧ s.field a2 n2) →
      ∃ t, exec i s = .next t ∧ t.cc = s.cc ∧ s.terminatedField t a1 n1 23 .addressError (.address .addressing)) ∧
    (s.ifr = 0 → s.field a1 n1 → s.field a2 n2 → ¬ s.openField a1 n1 →
      ∃ t, exec i s = .next t ∧ t.cc = s.cc ∧ s.terminatedField t a1 n1 23 .addressError (.address .protect)) ∧
    (s.openField a1 n1 → s.field a2 n2 →
      ¬ s.given a1 n1 ∨ ¬ s.invalidPacked a1 n1 ∧ ¬ s.given a2 n2 → exec i s = .refused .noValue)

/-- R189 to R193, R195, R203 to R206, R208: the floating-point loads. -/
def Obligations.FloatingLoads : Prop :=
  ∀ (s : State) (r1 r2 : RegNum) (v : DWord) (w : Word),
    floatRegister r1 = true → floatRegister r2 = true → v = s.fpr r2 → w = (s.fpr r2).extractLsb' 32 32 →
    exec (.ldr r1 r2) s = .next { s with f := s.withFpr r1 v, pc := s.next } ∧
    exec (.ler r1 r2) s = .next { s with f := s.withFprShort r1 w, pc := s.next } ∧
    exec (.ltdr r1 r2) s = .next { s with
      f := s.withFpr r1 v, cc := if v.toNat % 2 ^ 56 = 0 then 0 else if v.msb then 1 else 2, pc := s.next } ∧
    exec (.lter r1 r2) s = .next { s with
      f := s.withFprShort r1 w, cc := if w.toNat % 2 ^ 24 = 0 then 0 else if w.msb then 1 else 2, pc := s.next } ∧
    exec (.lcdr r1 r2) s = .next { s with
      f := s.withFpr r1 (v ^^^ 0x8000000000000000#64)
      cc := if v.toNat % 2 ^ 56 = 0 then 0 else if v.msb then 2 else 1, pc := s.next } ∧
    exec (.lcer r1 r2) s = .next { s with
      f := s.withFprShort r1 (w ^^^ 0x80000000#32)
      cc := if w.toNat % 2 ^ 24 = 0 then 0 else if w.msb then 2 else 1, pc := s.next } ∧
    exec (.lpdr r1 r2) s = .next { s with
      f := s.withFpr r1 (v &&& 0x7FFFFFFFFFFFFFFF#64), cc := if v.toNat % 2 ^ 56 = 0 then 0 else 2, pc := s.next } ∧
    exec (.lper r1 r2) s = .next { s with
      f := s.withFprShort r1 (w &&& 0x7FFFFFFF#32), cc := if w.toNat % 2 ^ 24 = 0 then 0 else 2, pc := s.next } ∧
    exec (.lndr r1 r2) s = .next { s with
      f := s.withFpr r1 (v ||| 0x8000000000000000#64), cc := if v.toNat % 2 ^ 56 = 0 then 0 else 1, pc := s.next } ∧
    exec (.lner r1 r2) s = .next { s with
      f := s.withFprShort r1 (w ||| 0x80000000#32), cc := if w.toNat % 2 ^ 24 = 0 then 0 else 1, pc := s.next }

/-- R189, R194, R207: HDR and HER shift the fraction right one bit; with HALVE_NORMALIZES the fraction is then
normalized in its own number of digits (the model's reading, log 27), with exponent underflow as in R188. -/
def Obligations.FloatingHalve : Prop :=
  ∀ (s : State) (r1 r2 : RegNum) (i : Instr) (n v sign char frac : Nat),
    floatRegister r1 = true → floatRegister r2 = true →
    (i = .hdr r1 r2 ∧ n = 14 ∧ v = (s.fpr r2).toNat ∨ i = .her r1 r2 ∧ n = 6 ∧ v = (s.fpr r2).toNat / 2 ^ 32) →
    sign = v / (128 * 16 ^ n) → char = v / 16 ^ n % 128 → frac = v % 16 ^ n →
    (s.cfg.halveNormalizes = false →
      exec i s = .next { s with
        f := s.floatWritten r1 n (sign * (128 * 16 ^ n) + char * 16 ^ n + frac / 2), pc := s.next }) ∧
    (s.cfg.halveNormalizes = true →
      (frac / 2 = 0 → exec i s = .next { s with f := s.floatWritten r1 n 0, pc := s.next }) ∧
      (∀ k : Nat, 16 ^ (n - 1) ≤ frac / 2 * 16 ^ k → frac / 2 * 16 ^ k < 16 ^ n →
        (k ≤ char → exec i s = .next { s with
          f := s.floatWritten r1 n (sign * (128 * 16 ^ n) + (char - k) * 16 ^ n + frac / 2 * 16 ^ k)
          pc := s.next }) ∧
        (char < k → s.pm.getLsbD 1 = false →
          exec i s = .next { s with f := s.floatWritten r1 n 0, pc := s.next }) ∧
        (char < k → s.pm.getLsbD 1 = true → s.ifr = 0 →
          ∃ t, exec i s = .next t ∧ s.floatFreed r1 n t.f ∧
            t = { s with f := t.f, draws := t.draws, pc := s.next }.interrupted 28 .exponentUnderflow .none)))

/-- R184, R188, R197 to R215, R283 to R297: the sixteen additions and subtractions. Both fractions, with `g` guard
digits, are shifted right to the larger characteristic `L`, what goes out beyond the guard digit being lost
(`shiftedFraction`: `F * 16^g / 16^(L - C)`, rounded down, with the sign); `T` is their exact signed sum. Then carry,
overflow, lost significance, normalization and underflow: `M` and `C` are the magnitude and characteristic after the
carry, `k` the number of digits of post-normalization. -/
def Obligations.FloatingAddition : Prop :=
  ∀ (s : State) (i : Instr) (w : FloatForm) (g L : Nat) (T : Int) (M C sign k : Nat),
    s.floatAddForm i = some w → s.operandsReady i →
    g = (if w.n = 6 ∨ s.cfg.fpLongGuard = true then 1 else 0) → L = max (w.a / 16 ^ w.n % 128) (w.b / 16 ^ w.n % 128) →
    T = shiftedFraction w.n g L false w.a + shiftedFraction w.n g L w.negate w.b →
    (T.natAbs < 16 ^ (w.n + g) ∧ M = T.natAbs ∧ C = L ∨
      16 ^ (w.n + g) ≤ T.natAbs ∧ M = T.natAbs / 16 ∧ C = L + 1) →
    sign = (if T < 0 then 1 else 0) →
    (w.normalize = false ∧ k = 0 ∨
      w.normalize = true ∧ 16 ^ (w.n + g - 1) ≤ M * 16 ^ k ∧ M * 16 ^ k < 16 ^ (w.n + g) ∨ M = 0) →
    (127 < C → s.ifr = 0 →
      ∃ t, exec i s = .next t ∧ s.floatFreed w.r1 w.n t.f ∧
        t = { s with f := t.f, cc := 3, draws := t.draws, pc := s.next }.interrupted 25 .exponentOverflow .none) ∧
    (C ≤ 127 → M = 0 → s.pm.getLsbD 0 = false →
      exec i s = .next { s with f := s.floatWritten w.r1 w.n 0, cc := 0, pc := s.next }) ∧
    (C ≤ 127 → M = 0 → s.pm.getLsbD 0 = true → s.ifr = 0 →
      exec i s = .next ({ s with f := s.floatWritten w.r1 w.n (C * 16 ^ w.n), cc := 0, pc := s.next }.interrupted 27
        .significantError .none)) ∧
    (C ≤ 127 → M ≠ 0 → k ≤ C → M * 16 ^ k / 16 ^ g ≠ 0 →
      exec i s = .next { s with
        f := s.floatWritten w.r1 w.n (sign * (128 * 16 ^ w.n) + (C - k) * 16 ^ w.n + M * 16 ^ k / 16 ^ g)
        cc := if sign = 1 then 1 else 2
        pc := s.next }) ∧
    (C ≤ 127 → M ≠ 0 → k ≤ C → M * 16 ^ k / 16 ^ g = 0 →
      exec i s = .next { s with f := s.floatWritten w.r1 w.n ((C - k) * 16 ^ w.n), cc := 0, pc := s.next }) ∧
    (C ≤ 127 → M ≠ 0 → C < k → s.pm.getLsbD 1 = false →
      exec i s = .next { s with f := s.floatWritten w.r1 w.n 0, cc := 0, pc := s.next }) ∧
    (C ≤ 127 → M ≠ 0 → C < k → s.pm.getLsbD 1 = true → s.ifr = 0 →
      ∃ t, exec i s = .next t ∧ s.floatFreed w.r1 w.n t.f ∧ t.cc ≠ 3 ∧
        t = { s with f := t.f, cc := t.cc, draws := t.draws, pc := s.next }.interrupted 28 .exponentUnderflow .none)

/-- R180, R184, R185, R196, R209, R282, R291: the four compares set the code by the sign of the difference `T` of the
fractions shifted to the larger characteristic, what goes out beyond the guard digit being lost; and the sum of two
fractions of one characteristic, which are not shifted, is exact. -/
def Obligations.FloatingCompareAndSum : Prop :=
  (∀ (s : State) (i : Instr) (w : FloatForm) (g L : Nat) (T : Int),
    s.floatCompareForm i = some w → s.operandsReady i → g = (if w.n = 6 ∨ s.cfg.fpLongGuard = true then 1 else 0) →
    L = max (w.a / 16 ^ w.n % 128) (w.b / 16 ^ w.n % 128) →
    T = shiftedFraction w.n g L false w.a + shiftedFraction w.n g L true w.b →
    exec i s = .next { s with cc := if T = 0 then 0 else if T < 0 then 1 else 2, pc := s.next }) ∧
  (∀ (n g C a b : Nat) (negate : Bool), n = 6 ∨ n = 14 → a / 16 ^ n % 128 = C → b / 16 ^ n % 128 = C →
    fSum n g negate a b = shiftedFraction n g C false a + shiftedFraction n g C negate b ∧
    (fSum n g negate a b : ℚ) * (16 : ℚ) ^ ((C : Int) - 64 - n - g) =
      if negate then floatValue n a - floatValue n b else floatValue n a + floatValue n b)

/-- R186, R199, R212, R285, R294: the four multiplications. `ka` and `kb` are the digits of pre-normalization, `P` the
exact product of the normalized fractions; the short product is long, all its digits kept. -/
def Obligations.FloatingMultiplication : Prop :=
  ∀ (s : State) (i : Instr) (w : FloatForm) (g fa fb ka kb P F sign : Nat) (C : Int),
    s.floatMultiplyForm i = some w → s.operandsReady i →
    g = (if s.cfg.fpLongGuard = true then 1 else 0) → fa = w.a % 16 ^ w.n → fb = w.b % 16 ^ w.n →
    (fa = 0 ∨ fb = 0 → exec i s = .next { s with f := s.withFpr w.r1 0, pc := s.next }) ∧
    (fa ≠ 0 → fb ≠ 0 →
      16 ^ (w.n - 1) ≤ fa * 16 ^ ka → fa * 16 ^ ka < 16 ^ w.n → 16 ^ (w.n - 1) ≤ fb * 16 ^ kb → fb * 16 ^ kb < 16 ^ w.n →
      P = fa * 16 ^ ka * (fb * 16 ^ kb) →
      sign = (if w.a / (128 * 16 ^ w.n) % 2 = w.b / (128 * 16 ^ w.n) % 2 then 0 else 1) →
      (C = (w.a / 16 ^ w.n % 128 : Nat) - ka + ((w.b / 16 ^ w.n % 128 : Nat) - kb) - 64 ∧
          (w.n = 6 ∧ 16 ^ 11 ≤ P ∧ F = P * 256 ∨ w.n = 14 ∧ 16 ^ 27 ≤ P ∧ F = P / 16 ^ 14) ∨
        C = (w.a / 16 ^ w.n % 128 : Nat) - ka + ((w.b / 16 ^ w.n % 128 : Nat) - kb) - 65 ∧
          (w.n = 6 ∧ P < 16 ^ 11 ∧ F = P * 4096 ∨
            w.n = 14 ∧ P < 16 ^ 27 ∧ F = P / 16 ^ (14 - g) * 16 / 16 ^ g)) →
      (0 ≤ C → C ≤ 127 → exec i s = .next { s with
        f := s.withFpr w.r1 (BitVec.ofNat 64 (sign * 2 ^ 63 + C.toNat * 2 ^ 56 + F)), pc := s.next }) ∧
      (C < 0 → s.pm.getLsbD 1 = false → exec i s = .next { s with f := s.withFpr w.r1 0, pc := s.next }) ∧
      (C < 0 → s.pm.getLsbD 1 = true → s.ifr = 0 → ∃ t, exec i s = .next t ∧ s.floatFreed w.r1 14 t.f ∧
        t = { s with f := t.f, draws := t.draws, pc := s.next }.interrupted 28 .exponentUnderflow .none) ∧
      (127 < C → s.ifr = 0 → ∃ t, exec i s = .next t ∧ s.floatFreed w.r1 14 t.f ∧
        t = { s with f := t.f, draws := t.draws, pc := s.next }.interrupted 25 .exponentOverflow .none))

/-- R187, R200, R213, R286, R295: the four divisions: the normalized fractions divided, truncated; a zero divisor
fraction is suppressed with DivideError. -/
def Obligations.FloatingDivision : Prop :=
  ∀ (s : State) (i : Instr) (w : FloatForm) (fa fb ka kb A B F sign : Nat) (C : Int),
    s.floatDivideForm i = some w → s.operandsReady i → fa = w.a % 16 ^ w.n → fb = w.b % 16 ^ w.n →
    (fb = 0 → s.ifr = 0 → exec i s = .next (s.suppressed 26 .divideError .none)) ∧
    (fb ≠ 0 → fa = 0 → exec i s = .next { s with f := s.floatWritten w.r1 w.n 0, pc := s.next }) ∧
    (fb ≠ 0 → fa ≠ 0 → A = fa * 16 ^ ka → B = fb * 16 ^ kb →
      16 ^ (w.n - 1) ≤ A → A < 16 ^ w.n → 16 ^ (w.n - 1) ≤ B → B < 16 ^ w.n →
      sign = (if w.a / (128 * 16 ^ w.n) % 2 = w.b / (128 * 16 ^ w.n) % 2 then 0 else 1) →
      (B ≤ A ∧ F = A * 16 ^ (w.n - 1) / B ∧
          C = (w.a / 16 ^ w.n % 128 : Nat) - ka - ((w.b / 16 ^ w.n % 128 : Nat) - kb) + 65 ∨
        A < B ∧ F = A * 16 ^ w.n / B ∧
          C = (w.a / 16 ^ w.n % 128 : Nat) - ka - ((w.b / 16 ^ w.n % 128 : Nat) - kb) + 64) →
      (0 ≤ C → C ≤ 127 → exec i s = .next { s with
        f := s.floatWritten w.r1 w.n (sign * (128 * 16 ^ w.n) + C.toNat * 16 ^ w.n + F), pc := s.next }) ∧
      (C < 0 → s.pm.getLsbD 1 = false → exec i s = .next { s with f := s.floatWritten w.r1 w.n 0, pc := s.next }) ∧
      (C < 0 → s.pm.getLsbD 1 = true → s.ifr = 0 → ∃ t, exec i s = .next t ∧ s.floatFreed w.r1 w.n t.f ∧
        t = { s with f := t.f, draws := t.draws, pc := s.next }.interrupted 28 .exponentUnderflow .none) ∧
      (127 < C → s.ifr = 0 → ∃ t, exec i s = .next t ∧ s.floatFreed w.r1 w.n t.f ∧
        t = { s with f := t.f, draws := t.draws, pc := s.next }.interrupted 25 .exponentOverflow .none))

/-- R186: the short multiplication is exact: the long product stands for the product of the two numbers. -/
def Obligations.ShortProductExact : Prop :=
  ∀ (pm2 : Bool) (a b v : Nat), a < 2 ^ 32 → b < 2 ^ 32 → (fMulShort pm2 a b).value = .set v →
    (fMulShort pm2 a b).raised = none →
    floatValue 14 v = floatValue 6 a * floatValue 6 b ∨
      (v = 0 ∧ |floatValue 6 a * floatValue 6 b| < (16 : ℚ) ^ (-65 : Int))

/-- R234: EX runs the subject instruction, its second byte ORed with bits 24-31 of the register unless R1 is 0, by the
subject's own rule with the EX's `next` and `ilc`; EX of EX is refused; an odd address and (by log 12) a subject
outside storage suppress; a subject byte that nothing has given a value refuses (R68). The third clause is a completion: a subject LR. -/
def Obligations.ExecuteRunsSubject : Prop :=
  ∀ (s : State) (r1 x2 b2 : RegNum) (d2 : Disp) (a : Addr), a = s.ea d2 x2 b2 →
    (∀ (op b : Byte) (rest : List Byte) (i : Instr), s.fetchBytes a = .ok (op :: b :: rest) → op ≠ 0x44 →
      decode (op :: (if r1 = 0 then b else b ||| (s.gpr r1).extractLsb' 0 8) :: rest) = .instr i →
      exec (.ex r1 x2 b2 d2) s = exec i s) ∧
    (∀ rest : List Byte, s.fetchBytes a = .ok (0x44 :: rest) → exec (.ex r1 x2 b2 d2) s = .refused .exOfEx) ∧
    (∀ p q : RegNum, r1 = 0 → s.fetchBytes a = .ok [0x18, p ++ q] →
      exec (.ex r1 x2 b2 d2) s = .next { s with x := s.withGpr p (s.gpr q), pc := s.next }) ∧
    (a.toNat % 2 = 1 → s.ifr = 0 →
      exec (.ex r1 x2 b2 d2) s = .next (s.suppressed 23 .addressError (.address .specification))) ∧
    (s.fetchBytes a = .error (.address .addressing) → s.ifr = 0 →
      exec (.ex r1 x2 b2 d2) s = .next (s.suppressed 23 .addressError (.address .addressing))) ∧
    (s.fetchBytes a = .error .noValue → exec (.ex r1 x2 b2 d2) s = .refused .noValue)
end

