-- ==== Sys2Proof/Laws/Memory.lean ====
section
/-! SUPPORT. The laws of sparse tables, storage and storage keys: what a read gives after a write, and that every
operation keeps the canonical form. -/

namespace Sys2Proof.Machine

variable {w : Nat}

/-! ## Sparse tables -/

theorem sparseFind_sparseErase (t : List (Nat × BitVec w)) (a b : Nat) :
    sparseFind (sparseErase t a) b = if a = b then none else sparseFind t b := by
  induction t with
  | nil => simp [sparseErase, sparseFind]
  | cons c t ih =>
    obtain ⟨k, v⟩ := c
    simp only [sparseErase] at ih
    by_cases hk : k = a <;> by_cases hb : a = b <;> simp_all [sparseErase, sparseFind]

theorem sparseFind_sparseInsert (t : List (Nat × BitVec w)) (a b : Nat) (v : BitVec w)
    (h : ∀ c ∈ t, c.1 ≠ a) : sparseFind (sparseInsert t a v) b = if a = b then some v else sparseFind t b := by
  induction t with
  | nil => simp [sparseInsert, sparseFind]
  | cons c t ih =>
    obtain ⟨k, u⟩ := c
    have hk : k ≠ a := h (k, u) (by simp)
    have := ih fun c hc => h c (by simp [hc])
    simp only [sparseInsert]
    split
    · simp [sparseFind]
    · simp only [sparseFind, this]
      by_cases hb : a = b
      · subst hb; simp [hk]
      · simp [hb]

theorem ne_of_mem_sparseErase {t : List (Nat × BitVec w)} {a : Nat} : ∀ c ∈ sparseErase t a, c.1 ≠ a := by
  intro c hc
  simpa using (List.mem_filter.mp hc).2

/-- Reading after writing, at the same key and at another. -/
theorem sparseFind_sparsePut (t : List (Nat × BitVec w)) (a b : Nat) (v : BitVec w) :
    sparseFind (sparsePut t a v) b = if a = b then some v else sparseFind t b := by
  rw [sparsePut, sparseFind_sparseInsert _ _ _ _ ne_of_mem_sparseErase, sparseFind_sparseErase]
  split <;> simp_all

theorem mem_sparseInsert {t : List (Nat × BitVec w)} {a : Nat} {v : BitVec w} {c : Nat × BitVec w} :
    c ∈ sparseInsert t a v ↔ c = (a, v) ∨ c ∈ t := by
  induction t with
  | nil => simp [sparseInsert]
  | cons d t ih =>
    obtain ⟨k, u⟩ := d
    simp only [sparseInsert]
    split
    · simp
    · simp only [List.mem_cons, ih]; tauto

/-- What a write can list: the new pair, and what was listed. -/
theorem mem_sparsePut {t : List (Nat × BitVec w)} {a : Nat} {v : BitVec w} {c : Nat × BitVec w}
    (h : c ∈ sparsePut t a v) : c = (a, v) ∨ c ∈ t :=
  (mem_sparseInsert.mp h).imp_right List.mem_of_mem_filter

theorem sparseRising_iff (t : List (Nat × BitVec w)) :
    sparseRising t = true ↔ t.Pairwise fun c d => c.1 < d.1 := by
  simp [sparseRising]

theorem sparseRising_sparseErase {t : List (Nat × BitVec w)} (a : Nat) (h : sparseRising t = true) :
    sparseRising (sparseErase t a) = true := by
  rw [sparseRising_iff] at *
  exact h.filter _

theorem pairwise_sparseInsert {t : List (Nat × BitVec w)} {a : Nat} {v : BitVec w}
    (h : t.Pairwise fun c d => c.1 < d.1) (ha : ∀ c ∈ t, c.1 ≠ a) :
    (sparseInsert t a v).Pairwise fun c d => c.1 < d.1 := by
  induction t with
  | nil => simp [sparseInsert]
  | cons d t ih =>
    obtain ⟨k, u⟩ := d
    have hk : k ≠ a := ha (k, u) (by simp)
    obtain ⟨h1, h2⟩ := List.pairwise_cons.mp h
    simp only [sparseInsert]
    split
    · rename_i hlt
      refine List.pairwise_cons.mpr ⟨fun c hc => ?_, h⟩
      rcases List.mem_cons.mp hc with rfl | hc
      · exact hlt
      · exact lt_trans hlt (h1 c hc)
    · refine List.pairwise_cons.mpr ⟨fun c hc => ?_, ih h2 fun c hc => ha c (by simp [hc])⟩
      rcases mem_sparseInsert.mp hc with rfl | hc
      · exact lt_of_le_of_ne (by omega) hk
      · exact h1 c hc

/-- A write keeps the keys rising. -/
theorem sparseRising_sparsePut {t : List (Nat × BitVec w)} (a : Nat) (v : BitVec w) (h : sparseRising t = true) :
    sparseRising (sparsePut t a v) = true :=
  (sparseRising_iff _).mpr
    (pairwise_sparseInsert ((sparseRising_iff _).mp (sparseRising_sparseErase a h)) ne_of_mem_sparseErase)

/-- A write below a bound keeps every key below it. -/
theorem sparseBelow_sparsePut {t : List (Nat × BitVec w)} {n : Nat} (a : Nat) (v : BitVec w)
    (h : sparseBelow t n = true) (ha : a < n) : sparseBelow (sparsePut t a v) n = true := by
  simp only [sparseBelow, List.all_eq_true, decide_eq_true_eq] at *
  intro c hc
  rcases mem_sparsePut hc with rfl | hc
  · exact ha
  · exact h c hc

/-! ## Storage keys -/

/-- The key of a block after a key was set. -/
theorem State.keyAt_setKey (s : State) (a b : Nat) (v : BitVec 4) :
    (s.setKey a v).keyAt b = if a = b then v else s.keyAt b := by
  unfold State.keyAt State.setKey Keys.write
  split
  · rename_i h
    simp only [sparseFind_sparseErase]
    split <;> simp_all
  · simp only [sparseFind_sparsePut]
    split <;> simp

/-- Setting a key keeps the canonical form. -/
theorem Keys.wf_write {k : Keys} (a : Nat) (v : BitVec 4) (h : k.wf = true) : (k.write a v).wf = true := by
  simp only [Keys.wf, Bool.and_eq_true, List.all_eq_true, bne_iff_ne] at *
  unfold Keys.write
  split
  · exact ⟨sparseRising_sparseErase a h.1, fun c hc => h.2 c (List.mem_of_mem_filter hc)⟩
  · rename_i hv
    refine ⟨sparseRising_sparsePut a v h.1, fun c hc => ?_⟩
    rcases mem_sparsePut hc with rfl | hc
    · exact hv
    · exact h.2 c hc

/-- Setting a key below a bound keeps every key below it. -/
theorem Keys.below_write {k : Keys} {n : Nat} (a : Nat) (v : BitVec 4) (h : sparseBelow k n = true) (ha : a < n) :
    sparseBelow (k.write a v) n = true := by
  unfold Keys.write
  split
  · simp only [sparseBelow, List.all_eq_true, decide_eq_true_eq] at *
    exact fun c hc => h c (List.mem_of_mem_filter hc)
  · exact sparseBelow_sparsePut a v h ha

/-! ## Storage -/

/-- Reading a byte after writing one. -/
theorem Memory.read_write (m : Memory) (a b : Addr) (v : Byte) :
    (m.write a v).read b = if a = b then some v else m.read b := by
  simp [Memory.read, Memory.write, sparseFind_sparsePut, BitVec.toNat_inj]

@[simp] theorem Memory.read_write_self (m : Memory) (a : Addr) (v : Byte) : (m.write a v).read a = some v := by
  simp [Memory.read_write]

theorem Memory.read_write_ne (m : Memory) (a b : Addr) (v : Byte) (h : a ≠ b) : (m.write a v).read b = m.read b := by
  simp [Memory.read_write, h]

theorem Memory.wf_write {m : Memory} (a : Addr) (v : Byte) (h : m.wf = true) : (m.write a v).wf = true :=
  sparseRising_sparsePut _ _ h

/-- What reading a byte string can give: its bytes in order, each having a value. -/
theorem Memory.bytes_eq_some {m : Memory} {a : Addr} {n : Nat} {bs : List Byte} :
    m.bytes a n = some bs ↔ bs.length = n ∧ ∀ i < n, m.read (addrPlus a i) = bs[i]? := by
  induction n generalizing a bs with
  | zero => cases bs <;> simp [Memory.bytes]
  | succ n ih =>
    have hstep : ∀ i, addrPlus (a + 1) i = addrPlus a (i + 1) := by
      intro i; unfold addrPlus; apply BitVec.eq_of_toNat_eq; simp [BitVec.toNat_add]; omega
    have h0 : addrPlus a 0 = a := by simp [addrPlus]
    constructor
    · intro h
      unfold Memory.bytes at h
      split at h
      · rename_i b rest hb hrest
        cases h
        obtain ⟨hl, hr⟩ := ih.mp hrest
        refine ⟨by simp [hl], fun i hi => ?_⟩
        cases i with
        | zero => simpa [h0] using hb
        | succ i => rw [← hstep]; simpa using hr i (by omega)
      · cases h
    · rintro ⟨hl, hr⟩
      cases bs with
      | nil => simp at hl
      | cons b rest =>
        have hb := hr 0 (by omega)
        rw [h0] at hb
        have hrest : m.bytes (a + 1) n = some rest :=
          ih.mpr ⟨by simpa using hl, fun i hi => by rw [hstep]; simpa using hr (i + 1) (by omega)⟩
        unfold Memory.bytes
        rw [hb, hrest]
        rfl

/-- A byte string has a value exactly where each of its bytes has one. -/
theorem Memory.bytes_eq_none {m : Memory} {a : Addr} {n : Nat} :
    m.bytes a n = none ↔ ∃ i < n, m.read (addrPlus a i) = none := by
  induction n generalizing a with
  | zero => simp [Memory.bytes]
  | succ n ih =>
    have hstep : ∀ i, addrPlus (a + 1) i = addrPlus a (i + 1) := by
      intro i; unfold addrPlus; apply BitVec.eq_of_toNat_eq; simp [BitVec.toNat_add]; omega
    have h0 : addrPlus a 0 = a := by simp [addrPlus]
    unfold Memory.bytes
    constructor
    · intro h
      cases hb : m.read a with
      | none => exact ⟨0, by omega, by rw [h0]; exact hb⟩
      | some b =>
        cases hr : m.bytes (a + 1) n with
        | none =>
          obtain ⟨i, hi, he⟩ := ih.mp hr
          exact ⟨i + 1, by omega, by rw [← hstep]; exact he⟩
        | some bs => rw [hb, hr] at h; cases h
    · rintro ⟨i, hi, he⟩
      cases i with
      | zero => rw [h0] at he; rw [he]
      | succ i =>
        rw [← hstep] at he
        rw [ih.mpr ⟨i, by omega, he⟩]
        cases m.read a <;> rfl

theorem Memory.wf_storeBytes {m : Memory} (a : Addr) (bs : List Byte) (h : m.wf = true) :
    (m.storeBytes a bs).wf = true := by
  induction bs generalizing m a with
  | nil => exact h
  | cons b bs ih => exact ih _ (Memory.wf_write a b h)

theorem Memory.wf_storeValue {m : Memory} (a : Addr) (n v : Nat) (h : m.wf = true) :
    (m.storeValue a n v).wf = true := Memory.wf_storeBytes _ _ h

theorem State.wf_freeBytes (s : State) (a : Addr) (n : Nat) (h : s.mem.wf = true) :
    (s.freeBytes a n).mem.wf = true := by
  induction n generalizing s a with
  | zero => exact h
  | succ n ih =>
    unfold State.freeBytes
    split
    · exact ih _ _ (Memory.wf_write _ _ h)
    · exact ih _ _ h

theorem State.wf_storeRegisters (s : State) (k : Nat) (r : RegNum) (a : Addr) {m : Memory} (h : m.wf = true) :
    (s.storeRegisters k r a m).wf = true := by
  induction k generalizing r a m with
  | zero => exact h
  | succ k ih => exact ih _ _ (Memory.wf_storeValue _ _ _ h)

theorem wf_combineBytes (f : Option Byte → Byte → Option Byte) (n : Nat) {m m' : Memory} (a1 a2 : Addr)
    (h : m.wf = true) (e : combineBytes f n m a1 a2 = some m') : m'.wf = true := by
  induction n generalizing m a1 a2 with
  | zero => simp only [combineBytes, Option.some.injEq] at e; exact e ▸ h
  | succ n ih =>
    unfold combineBytes at e
    split at e
    · cases e
    · exact ih _ _ (Memory.wf_write _ _ h) e

theorem wf_translateBytes (size : Nat) (a2 : Addr) (n : Nat) {m m' : Memory} (a1 : Addr) (h : m.wf = true)
    (e : translateBytes size a2 n m a1 = .ok m') : m'.wf = true := by
  induction n generalizing m a1 with
  | zero => simp only [translateBytes, Except.ok.injEq] at e; exact e ▸ h
  | succ n ih =>
    unfold translateBytes at e
    split at e
    · cases e
    · exact ih _ (Memory.wf_write _ _ h) e

theorem wf_moveOffset (a1 : Addr) (l1 : Nat) (a2 : Addr) (l2 k j : Nat) (p : Byte) {m m' : Memory} (h : m.wf = true)
    (e : moveOffset a1 l1 a2 l2 k j p m = some m') : m'.wf = true := by
  induction k generalizing j p m with
  | zero => simp only [moveOffset, Option.some.injEq] at e; exact e ▸ h
  | succ k ih =>
    unfold moveOffset at e
    split at e
    · cases e
    · exact ih _ _ (Memory.wf_write _ _ h) e

theorem wf_packBytes (a1 : Addr) (l1 : Nat) (a2 : Addr) (l2 k j : Nat) {m m' : Memory} (h : m.wf = true)
    (e : packBytes a1 l1 a2 l2 k j m = some m') : m'.wf = true := by
  induction k generalizing j m with
  | zero => simp only [packBytes, Option.some.injEq] at e; exact e ▸ h
  | succ k ih =>
    unfold packBytes at e
    split at e
    · exact ih _ (Memory.wf_write _ _ h) e
    · cases e

theorem wf_unpackBytes (z : BitVec 4) (a1 : Addr) (l1 : Nat) (a2 : Addr) (l2 k j : Nat) {m m' : Memory}
    (h : m.wf = true) (e : unpackBytes z a1 l1 a2 l2 k j m = some m') : m'.wf = true := by
  induction k generalizing j m with
  | zero => simp only [unpackBytes, Option.some.injEq] at e; exact e ▸ h
  | succ k ih =>
    unfold unpackBytes at e
    split at e
    · cases e
    · exact ih _ (Memory.wf_write _ _ h) e

theorem wf_swapStep {m m' : Memory} (a1 : Addr) (l1 : Nat) (a2 : Addr) (l2 : Nat) (h : m.wf = true)
    (e : swapStep m a1 l1 a2 l2 = some m') : m'.wf = true := by
  obtain ⟨b, -, rfl⟩ := Option.map_eq_some_iff.mp e
  exact Memory.wf_write _ _ h

theorem Edit.wf_run (s : State) (n : Nat) (a : Addr) (e e' : Edit) (h : e.mem.wf = true)
    (hr : Edit.run s n a e = .ok e') : e'.mem.wf = true := by
  induction n generalizing a e with
  | zero =>
    unfold Edit.run at hr
    split at hr
    · cases hr
    · cases hr; exact h
  | succ n ih =>
    unfold Edit.run at hr
    split at hr
    · cases hr
    · rename_i e1 he
      refine ih _ _ ?_ hr
      unfold Edit.step at he
      repeat' split at he
      all_goals first
        | (cases he; done)
        | (cases he; first | exact h | exact Memory.wf_write _ _ h)

/-- The bytes of a number read as a number. -/
theorem length_bytesOfNat (n v : Nat) : (bytesOfNat n v).length = n := by
  induction n with
  | zero => rfl
  | succ n ih => simp [bytesOfNat, ih]

end Sys2Proof.Machine
end

