-- ==== Sys2Proof/Laws/State.lean ====
section
/-! SUPPORT. One lemma per field per update of the state, true by definition. -/

namespace Sys2Proof.Machine

@[simp] theorem State.setMem_x (s : State) (m : Memory) : (s.setMem m).x = s.x := rfl
@[simp] theorem State.setMem_f (s : State) (m : Memory) : (s.setMem m).f = s.f := rfl
@[simp] theorem State.setMem_pc (s : State) (m : Memory) : (s.setMem m).pc = s.pc := rfl
@[simp] theorem State.setMem_cc (s : State) (m : Memory) : (s.setMem m).cc = s.cc := rfl
@[simp] theorem State.setMem_pm (s : State) (m : Memory) : (s.setMem m).pm = s.pm := rfl
@[simp] theorem State.setMem_ilc (s : State) (m : Memory) : (s.setMem m).ilc = s.ilc := rfl
@[simp] theorem State.setMem_mem (s : State) (m : Memory) : (s.setMem m).mem = m := rfl
@[simp] theorem State.setMem_keys (s : State) (m : Memory) : (s.setMem m).keys = s.keys := rfl
@[simp] theorem State.setMem_ifr (s : State) (m : Memory) : (s.setMem m).ifr = s.ifr := rfl
@[simp] theorem State.setMem_run (s : State) (m : Memory) : (s.setMem m).run = s.run := rfl
@[simp] theorem State.setMem_cfg (s : State) (m : Memory) : (s.setMem m).cfg = s.cfg := rfl
@[simp] theorem State.setMem_draws (s : State) (m : Memory) : (s.setMem m).draws = s.draws := rfl

@[simp] theorem State.setKey_x (s : State) (b : Nat) (k : BitVec 4) : (s.setKey b k).x = s.x := rfl
@[simp] theorem State.setKey_f (s : State) (b : Nat) (k : BitVec 4) : (s.setKey b k).f = s.f := rfl
@[simp] theorem State.setKey_pc (s : State) (b : Nat) (k : BitVec 4) : (s.setKey b k).pc = s.pc := rfl
@[simp] theorem State.setKey_cc (s : State) (b : Nat) (k : BitVec 4) : (s.setKey b k).cc = s.cc := rfl
@[simp] theorem State.setKey_pm (s : State) (b : Nat) (k : BitVec 4) : (s.setKey b k).pm = s.pm := rfl
@[simp] theorem State.setKey_ilc (s : State) (b : Nat) (k : BitVec 4) : (s.setKey b k).ilc = s.ilc := rfl
@[simp] theorem State.setKey_mem (s : State) (b : Nat) (k : BitVec 4) : (s.setKey b k).mem = s.mem := rfl
@[simp] theorem State.setKey_keys (s : State) (b : Nat) (k : BitVec 4) : (s.setKey b k).keys = s.keys.write b k := rfl
@[simp] theorem State.setKey_ifr (s : State) (b : Nat) (k : BitVec 4) : (s.setKey b k).ifr = s.ifr := rfl
@[simp] theorem State.setKey_run (s : State) (b : Nat) (k : BitVec 4) : (s.setKey b k).run = s.run := rfl
@[simp] theorem State.setKey_cfg (s : State) (b : Nat) (k : BitVec 4) : (s.setKey b k).cfg = s.cfg := rfl
@[simp] theorem State.setKey_draws (s : State) (b : Nat) (k : BitVec 4) : (s.setKey b k).draws = s.draws := rfl

@[simp] theorem State.setGpr_x (s : State) (r : RegNum) (v : Word) : (s.setGpr r v).x = s.x.set r.toNat v r.isLt := rfl
@[simp] theorem State.setGpr_f (s : State) (r : RegNum) (v : Word) : (s.setGpr r v).f = s.f := rfl
@[simp] theorem State.setGpr_pc (s : State) (r : RegNum) (v : Word) : (s.setGpr r v).pc = s.pc := rfl
@[simp] theorem State.setGpr_cc (s : State) (r : RegNum) (v : Word) : (s.setGpr r v).cc = s.cc := rfl
@[simp] theorem State.setGpr_pm (s : State) (r : RegNum) (v : Word) : (s.setGpr r v).pm = s.pm := rfl
@[simp] theorem State.setGpr_ilc (s : State) (r : RegNum) (v : Word) : (s.setGpr r v).ilc = s.ilc := rfl
@[simp] theorem State.setGpr_mem (s : State) (r : RegNum) (v : Word) : (s.setGpr r v).mem = s.mem := rfl
@[simp] theorem State.setGpr_keys (s : State) (r : RegNum) (v : Word) : (s.setGpr r v).keys = s.keys := rfl
@[simp] theorem State.setGpr_ifr (s : State) (r : RegNum) (v : Word) : (s.setGpr r v).ifr = s.ifr := rfl
@[simp] theorem State.setGpr_run (s : State) (r : RegNum) (v : Word) : (s.setGpr r v).run = s.run := rfl
@[simp] theorem State.setGpr_cfg (s : State) (r : RegNum) (v : Word) : (s.setGpr r v).cfg = s.cfg := rfl
@[simp] theorem State.setGpr_draws (s : State) (r : RegNum) (v : Word) : (s.setGpr r v).draws = s.draws := rfl

@[simp] theorem State.setFpr_x (s : State) (r : RegNum) (v : DWord) : (s.setFpr r v).x = s.x := rfl
@[simp] theorem State.setFpr_f (s : State) (r : RegNum) (v : DWord) : (s.setFpr r v).f = s.f.set (fprIndex r).val v (fprIndex r).isLt := rfl
@[simp] theorem State.setFpr_pc (s : State) (r : RegNum) (v : DWord) : (s.setFpr r v).pc = s.pc := rfl
@[simp] theorem State.setFpr_cc (s : State) (r : RegNum) (v : DWord) : (s.setFpr r v).cc = s.cc := rfl
@[simp] theorem State.setFpr_pm (s : State) (r : RegNum) (v : DWord) : (s.setFpr r v).pm = s.pm := rfl
@[simp] theorem State.setFpr_ilc (s : State) (r : RegNum) (v : DWord) : (s.setFpr r v).ilc = s.ilc := rfl
@[simp] theorem State.setFpr_mem (s : State) (r : RegNum) (v : DWord) : (s.setFpr r v).mem = s.mem := rfl
@[simp] theorem State.setFpr_keys (s : State) (r : RegNum) (v : DWord) : (s.setFpr r v).keys = s.keys := rfl
@[simp] theorem State.setFpr_ifr (s : State) (r : RegNum) (v : DWord) : (s.setFpr r v).ifr = s.ifr := rfl
@[simp] theorem State.setFpr_run (s : State) (r : RegNum) (v : DWord) : (s.setFpr r v).run = s.run := rfl
@[simp] theorem State.setFpr_cfg (s : State) (r : RegNum) (v : DWord) : (s.setFpr r v).cfg = s.cfg := rfl
@[simp] theorem State.setFpr_draws (s : State) (r : RegNum) (v : DWord) : (s.setFpr r v).draws = s.draws := rfl

@[simp] theorem State.setFprShort_x (s : State) (r : RegNum) (v : Word) : (s.setFprShort r v).x = s.x := rfl
@[simp] theorem State.setFprShort_pc (s : State) (r : RegNum) (v : Word) : (s.setFprShort r v).pc = s.pc := rfl
@[simp] theorem State.setFprShort_cc (s : State) (r : RegNum) (v : Word) : (s.setFprShort r v).cc = s.cc := rfl
@[simp] theorem State.setFprShort_pm (s : State) (r : RegNum) (v : Word) : (s.setFprShort r v).pm = s.pm := rfl
@[simp] theorem State.setFprShort_ilc (s : State) (r : RegNum) (v : Word) : (s.setFprShort r v).ilc = s.ilc := rfl
@[simp] theorem State.setFprShort_mem (s : State) (r : RegNum) (v : Word) : (s.setFprShort r v).mem = s.mem := rfl
@[simp] theorem State.setFprShort_keys (s : State) (r : RegNum) (v : Word) : (s.setFprShort r v).keys = s.keys := rfl
@[simp] theorem State.setFprShort_ifr (s : State) (r : RegNum) (v : Word) : (s.setFprShort r v).ifr = s.ifr := rfl
@[simp] theorem State.setFprShort_run (s : State) (r : RegNum) (v : Word) : (s.setFprShort r v).run = s.run := rfl
@[simp] theorem State.setFprShort_cfg (s : State) (r : RegNum) (v : Word) : (s.setFprShort r v).cfg = s.cfg := rfl
@[simp] theorem State.setFprShort_draws (s : State) (r : RegNum) (v : Word) : (s.setFprShort r v).draws = s.draws := rfl

@[simp] theorem State.setCC_x (s : State) (c : CC) : (s.setCC c).x = s.x := rfl
@[simp] theorem State.setCC_f (s : State) (c : CC) : (s.setCC c).f = s.f := rfl
@[simp] theorem State.setCC_pc (s : State) (c : CC) : (s.setCC c).pc = s.pc := rfl
@[simp] theorem State.setCC_cc (s : State) (c : CC) : (s.setCC c).cc = c := rfl
@[simp] theorem State.setCC_pm (s : State) (c : CC) : (s.setCC c).pm = s.pm := rfl
@[simp] theorem State.setCC_ilc (s : State) (c : CC) : (s.setCC c).ilc = s.ilc := rfl
@[simp] theorem State.setCC_mem (s : State) (c : CC) : (s.setCC c).mem = s.mem := rfl
@[simp] theorem State.setCC_keys (s : State) (c : CC) : (s.setCC c).keys = s.keys := rfl
@[simp] theorem State.setCC_ifr (s : State) (c : CC) : (s.setCC c).ifr = s.ifr := rfl
@[simp] theorem State.setCC_run (s : State) (c : CC) : (s.setCC c).run = s.run := rfl
@[simp] theorem State.setCC_cfg (s : State) (c : CC) : (s.setCC c).cfg = s.cfg := rfl
@[simp] theorem State.setCC_draws (s : State) (c : CC) : (s.setCC c).draws = s.draws := rfl

@[simp] theorem State.setPm_x (s : State) (m : BitVec 4) : (s.setPm m).x = s.x := rfl
@[simp] theorem State.setPm_f (s : State) (m : BitVec 4) : (s.setPm m).f = s.f := rfl
@[simp] theorem State.setPm_pc (s : State) (m : BitVec 4) : (s.setPm m).pc = s.pc := rfl
@[simp] theorem State.setPm_cc (s : State) (m : BitVec 4) : (s.setPm m).cc = s.cc := rfl
@[simp] theorem State.setPm_pm (s : State) (m : BitVec 4) : (s.setPm m).pm = m := rfl
@[simp] theorem State.setPm_ilc (s : State) (m : BitVec 4) : (s.setPm m).ilc = s.ilc := rfl
@[simp] theorem State.setPm_mem (s : State) (m : BitVec 4) : (s.setPm m).mem = s.mem := rfl
@[simp] theorem State.setPm_keys (s : State) (m : BitVec 4) : (s.setPm m).keys = s.keys := rfl
@[simp] theorem State.setPm_ifr (s : State) (m : BitVec 4) : (s.setPm m).ifr = s.ifr := rfl
@[simp] theorem State.setPm_run (s : State) (m : BitVec 4) : (s.setPm m).run = s.run := rfl
@[simp] theorem State.setPm_cfg (s : State) (m : BitVec 4) : (s.setPm m).cfg = s.cfg := rfl
@[simp] theorem State.setPm_draws (s : State) (m : BitVec 4) : (s.setPm m).draws = s.draws := rfl

@[simp] theorem State.advance_x (s : State) : (s.advance).x = s.x := rfl
@[simp] theorem State.advance_f (s : State) : (s.advance).f = s.f := rfl
@[simp] theorem State.advance_pc (s : State) : (s.advance).pc = s.next := rfl
@[simp] theorem State.advance_cc (s : State) : (s.advance).cc = s.cc := rfl
@[simp] theorem State.advance_pm (s : State) : (s.advance).pm = s.pm := rfl
@[simp] theorem State.advance_ilc (s : State) : (s.advance).ilc = s.ilc := rfl
@[simp] theorem State.advance_mem (s : State) : (s.advance).mem = s.mem := rfl
@[simp] theorem State.advance_keys (s : State) : (s.advance).keys = s.keys := rfl
@[simp] theorem State.advance_ifr (s : State) : (s.advance).ifr = s.ifr := rfl
@[simp] theorem State.advance_run (s : State) : (s.advance).run = s.run := rfl
@[simp] theorem State.advance_cfg (s : State) : (s.advance).cfg = s.cfg := rfl
@[simp] theorem State.advance_draws (s : State) : (s.advance).draws = s.draws := rfl

@[simp] theorem State.branchTo_x (s : State) (t : Addr) : (s.branchTo t).x = s.x := rfl
@[simp] theorem State.branchTo_f (s : State) (t : Addr) : (s.branchTo t).f = s.f := rfl
@[simp] theorem State.branchTo_pc (s : State) (t : Addr) : (s.branchTo t).pc = t := rfl
@[simp] theorem State.branchTo_cc (s : State) (t : Addr) : (s.branchTo t).cc = s.cc := rfl
@[simp] theorem State.branchTo_pm (s : State) (t : Addr) : (s.branchTo t).pm = s.pm := rfl
@[simp] theorem State.branchTo_ilc (s : State) (t : Addr) : (s.branchTo t).ilc = s.ilc := rfl
@[simp] theorem State.branchTo_mem (s : State) (t : Addr) : (s.branchTo t).mem = s.mem := rfl
@[simp] theorem State.branchTo_keys (s : State) (t : Addr) : (s.branchTo t).keys = s.keys := rfl
@[simp] theorem State.branchTo_ifr (s : State) (t : Addr) : (s.branchTo t).ifr = s.ifr := rfl
@[simp] theorem State.branchTo_run (s : State) (t : Addr) : (s.branchTo t).run = s.run := rfl
@[simp] theorem State.branchTo_cfg (s : State) (t : Addr) : (s.branchTo t).cfg = s.cfg := rfl
@[simp] theorem State.branchTo_draws (s : State) (t : Addr) : (s.branchTo t).draws = s.draws := rfl

@[simp] theorem State.beginInstr_x (s : State) (n : Nat) : (s.beginInstr n).x = s.x := rfl
@[simp] theorem State.beginInstr_f (s : State) (n : Nat) : (s.beginInstr n).f = s.f := rfl
@[simp] theorem State.beginInstr_pc (s : State) (n : Nat) : (s.beginInstr n).pc = s.pc := rfl
@[simp] theorem State.beginInstr_cc (s : State) (n : Nat) : (s.beginInstr n).cc = s.cc := rfl
@[simp] theorem State.beginInstr_pm (s : State) (n : Nat) : (s.beginInstr n).pm = s.pm := rfl
@[simp] theorem State.beginInstr_ilc (s : State) (n : Nat) : (s.beginInstr n).ilc = BitVec.ofNat 2 (n / 2) := rfl
@[simp] theorem State.beginInstr_mem (s : State) (n : Nat) : (s.beginInstr n).mem = s.mem := rfl
@[simp] theorem State.beginInstr_keys (s : State) (n : Nat) : (s.beginInstr n).keys = s.keys := rfl
@[simp] theorem State.beginInstr_ifr (s : State) (n : Nat) : (s.beginInstr n).ifr = s.ifr := rfl
@[simp] theorem State.beginInstr_run (s : State) (n : Nat) : (s.beginInstr n).run = s.run := rfl
@[simp] theorem State.beginInstr_cfg (s : State) (n : Nat) : (s.beginInstr n).cfg = s.cfg := rfl
@[simp] theorem State.beginInstr_draws (s : State) (n : Nat) : (s.beginInstr n).draws = s.draws := rfl

@[simp] theorem State.setGprAddr_f (s : State) (r : RegNum) (a : Addr) : (s.setGprAddr r a).f = s.f := rfl
@[simp] theorem State.setGprAddr_pc (s : State) (r : RegNum) (a : Addr) : (s.setGprAddr r a).pc = s.pc := rfl
@[simp] theorem State.setGprAddr_cc (s : State) (r : RegNum) (a : Addr) : (s.setGprAddr r a).cc = s.cc := rfl
@[simp] theorem State.setGprAddr_pm (s : State) (r : RegNum) (a : Addr) : (s.setGprAddr r a).pm = s.pm := rfl
@[simp] theorem State.setGprAddr_ilc (s : State) (r : RegNum) (a : Addr) : (s.setGprAddr r a).ilc = s.ilc := rfl
@[simp] theorem State.setGprAddr_mem (s : State) (r : RegNum) (a : Addr) : (s.setGprAddr r a).mem = s.mem := rfl
@[simp] theorem State.setGprAddr_keys (s : State) (r : RegNum) (a : Addr) : (s.setGprAddr r a).keys = s.keys := rfl
@[simp] theorem State.setGprAddr_ifr (s : State) (r : RegNum) (a : Addr) : (s.setGprAddr r a).ifr = s.ifr := rfl
@[simp] theorem State.setGprAddr_run (s : State) (r : RegNum) (a : Addr) : (s.setGprAddr r a).run = s.run := rfl
@[simp] theorem State.setGprAddr_cfg (s : State) (r : RegNum) (a : Addr) : (s.setGprAddr r a).cfg = s.cfg := rfl
@[simp] theorem State.setGprAddr_draws (s : State) (r : RegNum) (a : Addr) : (s.setGprAddr r a).draws = s.draws := rfl

@[simp] theorem State.freeGpr_f (s : State) (r : RegNum) : (s.freeGpr r).f = s.f := rfl
@[simp] theorem State.freeGpr_pc (s : State) (r : RegNum) : (s.freeGpr r).pc = s.pc := rfl
@[simp] theorem State.freeGpr_cc (s : State) (r : RegNum) : (s.freeGpr r).cc = s.cc := rfl
@[simp] theorem State.freeGpr_pm (s : State) (r : RegNum) : (s.freeGpr r).pm = s.pm := rfl
@[simp] theorem State.freeGpr_ilc (s : State) (r : RegNum) : (s.freeGpr r).ilc = s.ilc := rfl
@[simp] theorem State.freeGpr_mem (s : State) (r : RegNum) : (s.freeGpr r).mem = s.mem := rfl
@[simp] theorem State.freeGpr_keys (s : State) (r : RegNum) : (s.freeGpr r).keys = s.keys := rfl
@[simp] theorem State.freeGpr_ifr (s : State) (r : RegNum) : (s.freeGpr r).ifr = s.ifr := rfl
@[simp] theorem State.freeGpr_run (s : State) (r : RegNum) : (s.freeGpr r).run = s.run := rfl
@[simp] theorem State.freeGpr_cfg (s : State) (r : RegNum) : (s.freeGpr r).cfg = s.cfg := rfl
@[simp] theorem State.freeGpr_draws (s : State) (r : RegNum) : (s.freeGpr r).draws = s.draws + 1 := rfl

@[simp] theorem State.freeGprLow_f (s : State) (r : RegNum) (n : Nat) : (s.freeGprLow r n).f = s.f := rfl
@[simp] theorem State.freeGprLow_pc (s : State) (r : RegNum) (n : Nat) : (s.freeGprLow r n).pc = s.pc := rfl
@[simp] theorem State.freeGprLow_cc (s : State) (r : RegNum) (n : Nat) : (s.freeGprLow r n).cc = s.cc := rfl
@[simp] theorem State.freeGprLow_pm (s : State) (r : RegNum) (n : Nat) : (s.freeGprLow r n).pm = s.pm := rfl
@[simp] theorem State.freeGprLow_ilc (s : State) (r : RegNum) (n : Nat) : (s.freeGprLow r n).ilc = s.ilc := rfl
@[simp] theorem State.freeGprLow_mem (s : State) (r : RegNum) (n : Nat) : (s.freeGprLow r n).mem = s.mem := rfl
@[simp] theorem State.freeGprLow_keys (s : State) (r : RegNum) (n : Nat) : (s.freeGprLow r n).keys = s.keys := rfl
@[simp] theorem State.freeGprLow_ifr (s : State) (r : RegNum) (n : Nat) : (s.freeGprLow r n).ifr = s.ifr := rfl
@[simp] theorem State.freeGprLow_run (s : State) (r : RegNum) (n : Nat) : (s.freeGprLow r n).run = s.run := rfl
@[simp] theorem State.freeGprLow_cfg (s : State) (r : RegNum) (n : Nat) : (s.freeGprLow r n).cfg = s.cfg := rfl
@[simp] theorem State.freeGprLow_draws (s : State) (r : RegNum) (n : Nat) : (s.freeGprLow r n).draws = s.draws + 1 := rfl

@[simp] theorem State.freeFpr_x (s : State) (r : RegNum) : (s.freeFpr r).x = s.x := rfl
@[simp] theorem State.freeFpr_pc (s : State) (r : RegNum) : (s.freeFpr r).pc = s.pc := rfl
@[simp] theorem State.freeFpr_cc (s : State) (r : RegNum) : (s.freeFpr r).cc = s.cc := rfl
@[simp] theorem State.freeFpr_pm (s : State) (r : RegNum) : (s.freeFpr r).pm = s.pm := rfl
@[simp] theorem State.freeFpr_ilc (s : State) (r : RegNum) : (s.freeFpr r).ilc = s.ilc := rfl
@[simp] theorem State.freeFpr_mem (s : State) (r : RegNum) : (s.freeFpr r).mem = s.mem := rfl
@[simp] theorem State.freeFpr_keys (s : State) (r : RegNum) : (s.freeFpr r).keys = s.keys := rfl
@[simp] theorem State.freeFpr_ifr (s : State) (r : RegNum) : (s.freeFpr r).ifr = s.ifr := rfl
@[simp] theorem State.freeFpr_run (s : State) (r : RegNum) : (s.freeFpr r).run = s.run := rfl
@[simp] theorem State.freeFpr_cfg (s : State) (r : RegNum) : (s.freeFpr r).cfg = s.cfg := rfl
@[simp] theorem State.freeFpr_draws (s : State) (r : RegNum) : (s.freeFpr r).draws = s.draws + 1 := rfl

@[simp] theorem State.freeFprShort_x (s : State) (r : RegNum) : (s.freeFprShort r).x = s.x := rfl
@[simp] theorem State.freeFprShort_pc (s : State) (r : RegNum) : (s.freeFprShort r).pc = s.pc := rfl
@[simp] theorem State.freeFprShort_cc (s : State) (r : RegNum) : (s.freeFprShort r).cc = s.cc := rfl
@[simp] theorem State.freeFprShort_pm (s : State) (r : RegNum) : (s.freeFprShort r).pm = s.pm := rfl
@[simp] theorem State.freeFprShort_ilc (s : State) (r : RegNum) : (s.freeFprShort r).ilc = s.ilc := rfl
@[simp] theorem State.freeFprShort_mem (s : State) (r : RegNum) : (s.freeFprShort r).mem = s.mem := rfl
@[simp] theorem State.freeFprShort_keys (s : State) (r : RegNum) : (s.freeFprShort r).keys = s.keys := rfl
@[simp] theorem State.freeFprShort_ifr (s : State) (r : RegNum) : (s.freeFprShort r).ifr = s.ifr := rfl
@[simp] theorem State.freeFprShort_run (s : State) (r : RegNum) : (s.freeFprShort r).run = s.run := rfl
@[simp] theorem State.freeFprShort_cfg (s : State) (r : RegNum) : (s.freeFprShort r).cfg = s.cfg := rfl
@[simp] theorem State.freeFprShort_draws (s : State) (r : RegNum) : (s.freeFprShort r).draws = s.draws + 1 := rfl

@[simp] theorem State.freeCC_x (s : State) : (s.freeCC).x = s.x := rfl
@[simp] theorem State.freeCC_f (s : State) : (s.freeCC).f = s.f := rfl
@[simp] theorem State.freeCC_pc (s : State) : (s.freeCC).pc = s.pc := rfl
@[simp] theorem State.freeCC_pm (s : State) : (s.freeCC).pm = s.pm := rfl
@[simp] theorem State.freeCC_ilc (s : State) : (s.freeCC).ilc = s.ilc := rfl
@[simp] theorem State.freeCC_mem (s : State) : (s.freeCC).mem = s.mem := rfl
@[simp] theorem State.freeCC_keys (s : State) : (s.freeCC).keys = s.keys := rfl
@[simp] theorem State.freeCC_ifr (s : State) : (s.freeCC).ifr = s.ifr := rfl
@[simp] theorem State.freeCC_run (s : State) : (s.freeCC).run = s.run := rfl
@[simp] theorem State.freeCC_cfg (s : State) : (s.freeCC).cfg = s.cfg := rfl
@[simp] theorem State.freeCC_draws (s : State) : (s.freeCC).draws = s.draws + 1 := rfl

@[simp] theorem State.freeCCBelow3_x (s : State) : (s.freeCCBelow3).x = s.x := rfl
@[simp] theorem State.freeCCBelow3_f (s : State) : (s.freeCCBelow3).f = s.f := rfl
@[simp] theorem State.freeCCBelow3_pc (s : State) : (s.freeCCBelow3).pc = s.pc := rfl
@[simp] theorem State.freeCCBelow3_pm (s : State) : (s.freeCCBelow3).pm = s.pm := rfl
@[simp] theorem State.freeCCBelow3_ilc (s : State) : (s.freeCCBelow3).ilc = s.ilc := rfl
@[simp] theorem State.freeCCBelow3_mem (s : State) : (s.freeCCBelow3).mem = s.mem := rfl
@[simp] theorem State.freeCCBelow3_keys (s : State) : (s.freeCCBelow3).keys = s.keys := rfl
@[simp] theorem State.freeCCBelow3_ifr (s : State) : (s.freeCCBelow3).ifr = s.ifr := rfl
@[simp] theorem State.freeCCBelow3_run (s : State) : (s.freeCCBelow3).run = s.run := rfl
@[simp] theorem State.freeCCBelow3_cfg (s : State) : (s.freeCCBelow3).cfg = s.cfg := rfl
@[simp] theorem State.freeCCBelow3_draws (s : State) : (s.freeCCBelow3).draws = s.draws + 1 := rfl

/-! ## Recursive updates -/

@[simp] theorem State.freeGprs_f (s : State) (r : RegNum) (k : Nat) : (s.freeGprs r k).f = s.f := by
  induction k generalizing s r with
  | zero => rfl
  | succ n ih => simp only [State.freeGprs, ih]; rfl
@[simp] theorem State.freeGprs_pc (s : State) (r : RegNum) (k : Nat) : (s.freeGprs r k).pc = s.pc := by
  induction k generalizing s r with
  | zero => rfl
  | succ n ih => simp only [State.freeGprs, ih]; rfl
@[simp] theorem State.freeGprs_cc (s : State) (r : RegNum) (k : Nat) : (s.freeGprs r k).cc = s.cc := by
  induction k generalizing s r with
  | zero => rfl
  | succ n ih => simp only [State.freeGprs, ih]; rfl
@[simp] theorem State.freeGprs_pm (s : State) (r : RegNum) (k : Nat) : (s.freeGprs r k).pm = s.pm := by
  induction k generalizing s r with
  | zero => rfl
  | succ n ih => simp only [State.freeGprs, ih]; rfl
@[simp] theorem State.freeGprs_ilc (s : State) (r : RegNum) (k : Nat) : (s.freeGprs r k).ilc = s.ilc := by
  induction k generalizing s r with
  | zero => rfl
  | succ n ih => simp only [State.freeGprs, ih]; rfl
@[simp] theorem State.freeGprs_mem (s : State) (r : RegNum) (k : Nat) : (s.freeGprs r k).mem = s.mem := by
  induction k generalizing s r with
  | zero => rfl
  | succ n ih => simp only [State.freeGprs, ih]; rfl
@[simp] theorem State.freeGprs_keys (s : State) (r : RegNum) (k : Nat) : (s.freeGprs r k).keys = s.keys := by
  induction k generalizing s r with
  | zero => rfl
  | succ n ih => simp only [State.freeGprs, ih]; rfl
@[simp] theorem State.freeGprs_ifr (s : State) (r : RegNum) (k : Nat) : (s.freeGprs r k).ifr = s.ifr := by
  induction k generalizing s r with
  | zero => rfl
  | succ n ih => simp only [State.freeGprs, ih]; rfl
@[simp] theorem State.freeGprs_run (s : State) (r : RegNum) (k : Nat) : (s.freeGprs r k).run = s.run := by
  induction k generalizing s r with
  | zero => rfl
  | succ n ih => simp only [State.freeGprs, ih]; rfl
@[simp] theorem State.freeGprs_cfg (s : State) (r : RegNum) (k : Nat) : (s.freeGprs r k).cfg = s.cfg := by
  induction k generalizing s r with
  | zero => rfl
  | succ n ih => simp only [State.freeGprs, ih]; rfl

/-- Loading registers changes no other field of the state. -/
theorem State.loadRegisters_x_only {s t : State} {k : Nat} {r : RegNum} {a : Addr}
    (h : s.loadRegisters k r a = some t) : t = { s with x := t.x } := by
  induction k generalizing s r a with
  | zero => simp only [State.loadRegisters, Option.some.injEq] at h; subst h; rfl
  | succ k ih =>
    unfold State.loadRegisters at h
    split at h
    · cases h
    · rw [ih h]; rfl

@[simp] theorem State.freeBytes_x (s : State) (a : Addr) (n : Nat) : (s.freeBytes a n).x = s.x := by
  induction n generalizing s a with
  | zero => rfl
  | succ n ih => simp only [State.freeBytes, ih]; split <;> rfl
@[simp] theorem State.freeBytes_f (s : State) (a : Addr) (n : Nat) : (s.freeBytes a n).f = s.f := by
  induction n generalizing s a with
  | zero => rfl
  | succ n ih => simp only [State.freeBytes, ih]; split <;> rfl
@[simp] theorem State.freeBytes_pc (s : State) (a : Addr) (n : Nat) : (s.freeBytes a n).pc = s.pc := by
  induction n generalizing s a with
  | zero => rfl
  | succ n ih => simp only [State.freeBytes, ih]; split <;> rfl
@[simp] theorem State.freeBytes_cc (s : State) (a : Addr) (n : Nat) : (s.freeBytes a n).cc = s.cc := by
  induction n generalizing s a with
  | zero => rfl
  | succ n ih => simp only [State.freeBytes, ih]; split <;> rfl
@[simp] theorem State.freeBytes_pm (s : State) (a : Addr) (n : Nat) : (s.freeBytes a n).pm = s.pm := by
  induction n generalizing s a with
  | zero => rfl
  | succ n ih => simp only [State.freeBytes, ih]; split <;> rfl
@[simp] theorem State.freeBytes_ilc (s : State) (a : Addr) (n : Nat) : (s.freeBytes a n).ilc = s.ilc := by
  induction n generalizing s a with
  | zero => rfl
  | succ n ih => simp only [State.freeBytes, ih]; split <;> rfl
@[simp] theorem State.freeBytes_keys (s : State) (a : Addr) (n : Nat) : (s.freeBytes a n).keys = s.keys := by
  induction n generalizing s a with
  | zero => rfl
  | succ n ih => simp only [State.freeBytes, ih]; split <;> rfl
@[simp] theorem State.freeBytes_ifr (s : State) (a : Addr) (n : Nat) : (s.freeBytes a n).ifr = s.ifr := by
  induction n generalizing s a with
  | zero => rfl
  | succ n ih => simp only [State.freeBytes, ih]; split <;> rfl
@[simp] theorem State.freeBytes_run (s : State) (a : Addr) (n : Nat) : (s.freeBytes a n).run = s.run := by
  induction n generalizing s a with
  | zero => rfl
  | succ n ih => simp only [State.freeBytes, ih]; split <;> rfl
@[simp] theorem State.freeBytes_cfg (s : State) (a : Addr) (n : Nat) : (s.freeBytes a n).cfg = s.cfg := by
  induction n generalizing s a with
  | zero => rfl
  | succ n ih => simp only [State.freeBytes, ih]; split <;> rfl

/-! ## Reading a register after writing one -/

@[simp] theorem State.gpr_setGpr_self (s : State) (r : RegNum) (v : Word) : (s.setGpr r v).gpr r = v := by
  simp [State.gpr, State.setGpr]

theorem State.gpr_setGpr_ne (s : State) (r q : RegNum) (v : Word) (h : r ≠ q) : (s.setGpr r v).gpr q = s.gpr q := by
  have : r.toNat ≠ q.toNat := fun e => h (BitVec.eq_of_toNat_eq e)
  simp [State.gpr, State.setGpr, this]

theorem State.gpr_setGpr (s : State) (r q : RegNum) (v : Word) :
    (s.setGpr r v).gpr q = if r = q then v else s.gpr q := by
  split
  · subst_vars; simp
  · exact s.gpr_setGpr_ne r q v ‹_›

@[simp] theorem State.fpr_setFpr_self (s : State) (r : RegNum) (v : DWord) : (s.setFpr r v).fpr r = v := by
  simp [State.fpr, State.setFpr]

theorem State.fpr_setFpr_ne (s : State) (r q : RegNum) (v : DWord) (h : fprIndex r ≠ fprIndex q) :
    (s.setFpr r v).fpr q = s.fpr q := by
  have : (fprIndex r).val ≠ (fprIndex q).val := fun e => h (Fin.ext e)
  simp [State.fpr, State.setFpr, this]

theorem State.fprShort_setFprShort (s : State) (r : RegNum) (v : Word) : (s.setFprShort r v).fprShort r = v := by
  simp only [State.fprShort, State.setFprShort, State.fpr_setFpr_self]
  exact BitVec.extractLsb'_append_eq_left

@[simp] theorem State.gpr_setMem (s : State) (m : Memory) (q : RegNum) : (s.setMem m).gpr q = s.gpr q := rfl
@[simp] theorem State.fpr_setMem (s : State) (m : Memory) (q : RegNum) : (s.setMem m).fpr q = s.fpr q := rfl
@[simp] theorem State.gpr_setKey (s : State) (b : Nat) (k : BitVec 4) (q : RegNum) : (s.setKey b k).gpr q = s.gpr q := rfl
@[simp] theorem State.fpr_setKey (s : State) (b : Nat) (k : BitVec 4) (q : RegNum) : (s.setKey b k).fpr q = s.fpr q := rfl
@[simp] theorem State.gpr_setCC (s : State) (c : CC) (q : RegNum) : (s.setCC c).gpr q = s.gpr q := rfl
@[simp] theorem State.fpr_setCC (s : State) (c : CC) (q : RegNum) : (s.setCC c).fpr q = s.fpr q := rfl
@[simp] theorem State.gpr_setPm (s : State) (m : BitVec 4) (q : RegNum) : (s.setPm m).gpr q = s.gpr q := rfl
@[simp] theorem State.fpr_setPm (s : State) (m : BitVec 4) (q : RegNum) : (s.setPm m).fpr q = s.fpr q := rfl
@[simp] theorem State.gpr_advance (s : State) (q : RegNum) : (s.advance).gpr q = s.gpr q := rfl
@[simp] theorem State.fpr_advance (s : State) (q : RegNum) : (s.advance).fpr q = s.fpr q := rfl
@[simp] theorem State.gpr_branchTo (s : State) (t : Addr) (q : RegNum) : (s.branchTo t).gpr q = s.gpr q := rfl
@[simp] theorem State.fpr_branchTo (s : State) (t : Addr) (q : RegNum) : (s.branchTo t).fpr q = s.fpr q := rfl
@[simp] theorem State.gpr_beginInstr (s : State) (n : Nat) (q : RegNum) : (s.beginInstr n).gpr q = s.gpr q := rfl
@[simp] theorem State.fpr_beginInstr (s : State) (n : Nat) (q : RegNum) : (s.beginInstr n).fpr q = s.fpr q := rfl
@[simp] theorem State.fpr_setGpr (s : State) (r : RegNum) (v : Word) (q : RegNum) : (s.setGpr r v).fpr q = s.fpr q := rfl
@[simp] theorem State.gpr_setFpr (s : State) (r : RegNum) (v : DWord) (q : RegNum) : (s.setFpr r v).gpr q = s.gpr q := rfl
@[simp] theorem State.byteAt_setMem (s : State) (m : Memory) (a : Addr) : (s.setMem m).byteAt a = m.read a := rfl
@[simp] theorem State.inStorage_setMem (s : State) (m : Memory) (a : Addr) (n : Nat) :
    (s.setMem m).inStorage a n = s.inStorage a n := rfl
@[simp] theorem State.storeAllowed_setMem (s : State) (m : Memory) (a : Addr) (n : Nat) :
    (s.setMem m).storeAllowed a n = s.storeAllowed a n := rfl

end Sys2Proof.Machine
end

