-- ==== Sys2Proof/Laws/Ops.lean ====
section
/-! SUPPORT. What each shared operation can do, said once: taking an interrupt, the endings, the operand checks. -/

namespace Sys2Proof.Machine

/-! ## Taking an interrupt -/

theorem State.takeInterrupt_run_only (s : State) (r : Option (Condition × Info)) :
    s.takeInterrupt r = { s with run := (s.takeInterrupt r).run } := by
  unfold State.takeInterrupt
  split <;> rfl

/-- A raise changes the flag register and the outcome mark, nothing else. -/
theorem State.raise_eq (s : State) (c : Condition) (info : Info) :
    s.raise c info = { s with ifr := s.ifr ||| c.flag, run := (s.raise c info).run } := by
  unfold State.raise
  rw [State.takeInterrupt_run_only]

theorem Condition.find_flag (c : Condition) :
    Condition.all.find? (fun d => (0 ||| c.flag).getLsbD (d.priority - 1)) = some c := by
  cases c <;> decide

/-- With nothing pending, the condition raised is the one taken. -/
theorem State.raise_of_idle (s : State) (c : Condition) (info : Info) (h : s.ifr = 0) :
    s.raise c info = { s with ifr := c.flag, run := .ended c info } := by
  have hp : ({ s with ifr := s.ifr ||| c.flag } : State).firstPending = some c := by
    have := Condition.find_flag c
    rw [← h] at this
    exact this
  unfold State.raise State.takeInterrupt
  rw [hp]
  simp [h]

theorem State.firstPending_of_idle (s : State) (h : s.ifr = 0) : s.firstPending = none := by
  simp [State.firstPending, State.flagged, h, Condition.all]

theorem State.takeInterrupt_of_idle (s : State) (r : Option (Condition × Info)) (h : s.ifr = 0) :
    s.takeInterrupt r = s := by
  simp only [State.takeInterrupt, s.firstPending_of_idle h]

theorem State.settle_of_idle (s : State) (h : s.ifr = 0) : s.settle = s := by
  unfold State.settle
  split
  · exact s.takeInterrupt_of_idle _ h
  · rfl

@[simp] theorem State.raise_x (s : State) (c : Condition) (i : Info) : (s.raise c i).x = s.x := by rw [State.raise_eq]
@[simp] theorem State.raise_f (s : State) (c : Condition) (i : Info) : (s.raise c i).f = s.f := by rw [State.raise_eq]
@[simp] theorem State.raise_pc (s : State) (c : Condition) (i : Info) : (s.raise c i).pc = s.pc := by rw [State.raise_eq]
@[simp] theorem State.raise_cc (s : State) (c : Condition) (i : Info) : (s.raise c i).cc = s.cc := by rw [State.raise_eq]
@[simp] theorem State.raise_pm (s : State) (c : Condition) (i : Info) : (s.raise c i).pm = s.pm := by rw [State.raise_eq]
@[simp] theorem State.raise_ilc (s : State) (c : Condition) (i : Info) : (s.raise c i).ilc = s.ilc := by
  rw [State.raise_eq]
@[simp] theorem State.raise_mem (s : State) (c : Condition) (i : Info) : (s.raise c i).mem = s.mem := by
  rw [State.raise_eq]
@[simp] theorem State.raise_keys (s : State) (c : Condition) (i : Info) : (s.raise c i).keys = s.keys := by
  rw [State.raise_eq]
@[simp] theorem State.raise_ifr (s : State) (c : Condition) (i : Info) : (s.raise c i).ifr = s.ifr ||| c.flag := by
  rw [State.raise_eq]
@[simp] theorem State.raise_cfg (s : State) (c : Condition) (i : Info) : (s.raise c i).cfg = s.cfg := by
  rw [State.raise_eq]
@[simp] theorem State.raise_draws (s : State) (c : Condition) (i : Info) : (s.raise c i).draws = s.draws := by
  rw [State.raise_eq]

/-- A raise always ends the run: the flag it sets is pending. -/
theorem State.raise_run_ne (s : State) (c : Condition) (info : Info) : (s.raise c info).run ≠ .running := by
  have hf : ∀ ifr : BitVec 32, (ifr ||| c.flag).getLsbD (c.priority - 1) = true := by
    intro ifr
    have hc : c.flag.getLsbD (c.priority - 1) = true := by cases c <;> decide
    rw [BitVec.getLsbD_or, hc, Bool.or_true]
  unfold State.raise State.takeInterrupt
  split
  · rename_i h
    have := List.find?_eq_none.mp h c (by cases c <;> simp [Condition.all])
    exact absurd (hf s.ifr) this
  · simp

/-! ## Settling -/

theorem State.settle_run_only (s : State) : s.settle = { s with run := s.settle.run } := by
  unfold State.settle
  split
  · rw [State.takeInterrupt_run_only]
  · rfl

@[simp] theorem State.settle_x (s : State) : s.settle.x = s.x := by rw [State.settle_run_only]
@[simp] theorem State.settle_f (s : State) : s.settle.f = s.f := by rw [State.settle_run_only]
@[simp] theorem State.settle_pc (s : State) : s.settle.pc = s.pc := by rw [State.settle_run_only]
@[simp] theorem State.settle_cc (s : State) : s.settle.cc = s.cc := by rw [State.settle_run_only]
@[simp] theorem State.settle_pm (s : State) : s.settle.pm = s.pm := by rw [State.settle_run_only]
@[simp] theorem State.settle_ilc (s : State) : s.settle.ilc = s.ilc := by rw [State.settle_run_only]
@[simp] theorem State.settle_mem (s : State) : s.settle.mem = s.mem := by rw [State.settle_run_only]
@[simp] theorem State.settle_keys (s : State) : s.settle.keys = s.keys := by rw [State.settle_run_only]
@[simp] theorem State.settle_ifr (s : State) : s.settle.ifr = s.ifr := by rw [State.settle_run_only]
@[simp] theorem State.settle_cfg (s : State) : s.settle.cfg = s.cfg := by rw [State.settle_run_only]
@[simp] theorem State.settle_draws (s : State) : s.settle.draws = s.draws := by rw [State.settle_run_only]

/-- A settled next state comes from a next state. -/
theorem settleResult_next {r : Result} {t : State} (h : settleResult r = .next t) : ∃ u, r = .next u ∧ t = u.settle := by
  cases r with
  | next u => exact ⟨u, rfl, by simpa [settleResult] using h.symm⟩
  | fault _ => simp [settleResult] at h
  | refused _ => simp [settleResult] at h

/-! ## Endings -/

/-- Completed with an optional condition: a next state, in which the results and the advanced `pc` stand. -/
theorem State.completeWith_next (s : State) (c : Option Condition) :
    s.completeWith c = .next (match c with
      | none => s.advance
      | some c => s.advance.raise c .none) := by
  cases c <;> rfl

theorem State.complete_next (s : State) : s.complete = .next s.advance := rfl

theorem State.suppress_next (s : State) (c : Condition) (i : Info) : s.suppress c i = .next (s.advance.raise c i) := rfl

/-! ## Operand checks -/

/-- What reading a value can do: refuse, or go on with the value. -/
theorem State.withValue_cases (s : State) (a : Addr) (n : Nat) (k : Nat → Result) :
    (s.mem.value a n = none ∧ s.withValue a n k = .refused .noValue) ∨
    (∃ v, s.mem.value a n = some v ∧ s.withValue a n k = k v) := by
  unfold State.withValue
  cases h : s.mem.value a n with
  | none => exact .inl ⟨rfl, rfl⟩
  | some v => exact .inr ⟨v, rfl, rfl⟩

/-- What an operand fetch can do: suppress with the cause, refuse, or go on with the value. -/
theorem State.withRead_cases (s : State) (a : Addr) (n : Nat) (k : Nat → Result) :
    (∃ c, s.readFault a n = some c ∧ s.withRead a n k = s.addressFault c) ∨
    (s.readFault a n = none ∧ s.mem.value a n = none ∧ s.withRead a n k = .refused .noValue) ∨
    (s.readFault a n = none ∧ ∃ v, s.mem.value a n = some v ∧ s.withRead a n k = k v) := by
  unfold State.withRead
  cases h : s.readFault a n with
  | some c => exact .inl ⟨c, rfl, rfl⟩
  | none =>
    rcases s.withValue_cases a n k with ⟨hv, hk⟩ | ⟨v, hv, hk⟩
    · exact .inr (.inl ⟨rfl, hv, hk⟩)
    · exact .inr (.inr ⟨rfl, v, hv, hk⟩)

theorem State.readFault_none_iff (s : State) (a : Addr) (n : Nat) :
    s.readFault a n = none ↔ a.toNat % n = 0 ∧ s.inStorage a n = true := by
  unfold State.readFault
  split
  · simp_all
  · split <;> simp_all

theorem State.writeFault_none_iff (s : State) (a : Addr) (n : Nat) :
    s.writeFault a n = none ↔ a.toNat % n = 0 ∧ s.inStorage a n = true ∧ s.storeAllowed a n = true := by
  unfold State.writeFault
  rw [← and_assoc, ← s.readFault_none_iff]
  cases h : s.readFault a n with
  | some c => simp
  | none => simp

/-- What an operand store can do: suppress with the cause, or go on with the bytes stored. -/
theorem State.withWrite_cases (s : State) (a : Addr) (n v : Nat) (k : State → Result) :
    (∃ c, s.writeFault a n = some c ∧ s.withWrite a n v k = s.addressFault c) ∨
    (s.writeFault a n = none ∧ s.withWrite a n v k = k (s.setMem (s.mem.storeValue a n v))) := by
  unfold State.withWrite
  cases h : s.writeFault a n with
  | some c => exact .inl ⟨c, rfl, rfl⟩
  | none => exact .inr ⟨rfl, rfl⟩

/-- What the replacement of one byte can do: suppress with the cause, refuse, or go on with the byte replaced. -/
theorem State.withUpdate_cases (s : State) (a : Addr) (f : Byte → Byte) (k : Byte → State → Result) :
    (∃ c, s.writeFault a 1 = some c ∧ s.withUpdate a f k = s.addressFault c) ∨
    (s.writeFault a 1 = none ∧ s.byteAt a = none ∧ s.withUpdate a f k = .refused .noValue) ∨
    (s.writeFault a 1 = none ∧ ∃ v, s.byteAt a = some v ∧
      s.withUpdate a f k = k v (s.setMem (s.mem.write a (f v)))) := by
  unfold State.withUpdate
  cases h : s.writeFault a 1 with
  | some c => exact .inl ⟨c, rfl, rfl⟩
  | none =>
    cases hb : s.byteAt a with
    | none => exact .inr (.inl ⟨rfl, rfl, rfl⟩)
    | some v => exact .inr (.inr ⟨rfl, v, rfl, rfl⟩)

/-- What the end of a field instruction can do: terminate or refuse by the stop, or go on with the storage. -/
theorem State.withStorage_cases (freed : State) (r : Except Stop Memory) (k : Memory → Result) :
    (∃ stop, r = .error stop ∧ freed.withStorage r k = terminateBy freed stop) ∨
    (∃ m, r = .ok m ∧ freed.withStorage r k = k m) := by
  cases r with
  | error stop => exact .inl ⟨stop, rfl, rfl⟩
  | ok m => exact .inr ⟨m, rfl, rfl⟩

/-- What reading a packed operand can do: terminate or refuse by the stop, or go on with the number. -/
theorem State.withDecimal_cases (s : State) (a : Addr) (n : Nat) (freed : State) (k : Dec → Result) :
    (∃ stop, s.decAt a n = .error stop ∧ s.withDecimal a n freed k = terminateBy freed stop) ∨
    (∃ d, s.decAt a n = .ok d ∧ s.withDecimal a n freed k = k d) := by
  unfold State.withDecimal
  cases h : s.decAt a n with
  | error stop => exact .inl ⟨stop, rfl, rfl⟩
  | ok d => exact .inr ⟨d, rfl, rfl⟩

/-- A stop that terminates answers a next state, unless a byte has no value. -/
theorem terminateBy_next {freed t : State} {stop : Stop} (h : terminateBy freed stop = .next t) :
    ∃ c info, stop = .raised c info ∧ t = freed.advance.raise c info := by
  cases stop with
  | raised c info => exact ⟨c, info, rfl, by simpa [terminateBy, terminate] using h.symm⟩
  | noValue => simp [terminateBy] at h

/-- A stop that suppresses answers a next state, unless a byte has no value. -/
theorem State.suppressBy_next {s t : State} {stop : Stop} (h : s.suppressBy stop = .next t) :
    ∃ c info, stop = .raised c info ∧ t = s.advance.raise c info := by
  cases stop with
  | raised c info => exact ⟨c, info, rfl, by simpa [State.suppressBy, State.suppress] using h.symm⟩
  | noValue => simp [State.suppressBy] at h

/-- A stop at fetch answers a next state, unless a byte has no value. -/
theorem State.fetchStopped_next {s t : State} {stop : Stop} (h : s.fetchStopped stop = .next t) :
    ∃ c info, stop = .raised c info ∧ t = s.raise c info := by
  cases stop with
  | raised c info => exact ⟨c, info, rfl, by simpa [State.fetchStopped] using h.symm⟩
  | noValue => simp [State.fetchStopped] at h

/-- What an instruction fetch gives: as many bytes as the first byte asks for, as storage holds them. -/
theorem State.fetchBytes_ok {s : State} {a : Addr} {bs : List Byte} (h : s.fetchBytes a = .ok bs) :
    a.toNat % 2 = 0 ∧ ∃ op, s.byteAt a = some op ∧ s.inStorage a (instrLength op) = true ∧
      bs.length = instrLength op ∧ ∀ i < instrLength op, s.byteAt (addrPlus a i) = bs[i]? := by
  unfold State.fetchBytes at h
  split at h
  · cases h
  · split at h
    · cases h
    · split at h
      · cases h
      · rename_i op hop
        split at h
        · cases h
        · rename_i hin
          split at h
          · cases h
          · rename_i bytes hb
            cases h
            obtain ⟨hl, hr⟩ := Memory.bytes_eq_some.mp hb
            exact ⟨by omega, op, hop, by simpa using hin, hl, fun i hi => hr i hi⟩

/-- A stop met while operands are walked either stays an AddressError or gives way to protection. -/
theorem Stop.afterProtection_cases (stop : Stop) (p : Bool) :
    stop.afterProtection p = stop ∨ (p = true ∧ stop.afterProtection p = .address .protect) := by
  unfold Stop.afterProtection
  split
  · exact .inl rfl
  · cases p
    · exact .inl rfl
    · exact .inr ⟨rfl, rfl⟩

theorem State.fieldFault_none_iff (s : State) (a1 : Addr) (n1 : Nat) (a2 : Addr) (n2 : Nat) (stores : Bool) :
    s.fieldFault a1 n1 a2 n2 stores = none ↔
      s.inStorage a1 n1 = true ∧ s.inStorage a2 n2 = true ∧ (stores = true → s.storeAllowed a1 n1 = true) := by
  unfold State.fieldFault
  cases s.inStorage a1 n1 <;> cases s.inStorage a2 n2 <;> cases stores <;> cases s.storeAllowed a1 n1 <;> simp

/-- `inStorage` byte by byte. -/
theorem State.inStorage_iff (s : State) (a : Addr) (n : Nat) :
    s.inStorage a n = true ↔ ∀ i < n, (addrPlus a i).toNat < s.cfg.memSize := by
  simp [State.inStorage]

theorem State.storeAllowed_iff (s : State) (a : Addr) (n : Nat) :
    s.storeAllowed a n = true ↔ ∀ i < n, s.storeAllowedAt (addrPlus a i) = true := by
  simp [State.storeAllowed]

/-! ## Register checks -/

theorem State.withEven_cases (s : State) (r : RegNum) (k : Result) :
    (r.toNat % 2 = 0 ∧ s.withEven r k = k) ∨ (r.toNat % 2 ≠ 0 ∧ s.withEven r k = s.addressFault .specification) := by
  unfold State.withEven
  split
  · exact .inl ⟨‹_›, rfl⟩
  · exact .inr ⟨‹_›, rfl⟩

theorem State.withFreg_cases (s : State) (r : RegNum) (k : Result) :
    ((r.toNat % 2 = 0 ∧ r.toNat < 8) ∧ s.withFreg r k = k) ∨
    (¬(r.toNat % 2 = 0 ∧ r.toNat < 8) ∧ s.withFreg r k = s.addressFault .specification) := by
  unfold State.withFreg
  split
  · exact .inl ⟨‹_›, rfl⟩
  · exact .inr ⟨‹_›, rfl⟩

/-! ## Stored bytes -/

/-- A byte outside a stored string is unchanged; inside, it is the string's. -/
theorem Memory.read_storeBytes (m : Memory) (a b : Addr) (bs : List Byte) (hn : bs.length ≤ 2 ^ 24) :
    (m.storeBytes a bs).read b = (bs[(b - a).toNat]?).or (m.read b) := by
  induction bs generalizing m a with
  | nil => simp [Memory.storeBytes]
  | cons v bs ih =>
    have hl : bs.length + 1 ≤ 2 ^ 24 := by simpa using hn
    rw [Memory.storeBytes, ih _ _ (by omega), Memory.read_write]
    by_cases h : a = b
    · subst h
      have h2 : bs[(a - (a + 1)).toNat]? = none := by
        have : (a - (a + 1)).toNat = 2 ^ 24 - 1 := by
          have : a - (a + 1) = (-1 : BitVec 24) := by bv_omega
          rw [this]; rfl
        rw [this]; exact List.getElem?_eq_none (by omega)
      rw [h2]; simp
    · have h3 : (b - a).toNat = (b - (a + 1)).toNat + 1 := by
        have : a.toNat ≠ b.toNat := fun e => h (BitVec.eq_of_toNat_eq e)
        bv_omega
      rw [h3]; simp [h]

end Sys2Proof.Machine
end

