-- ==== Sys2Proof/Laws/PerInstr.lean ====
section
/-! SUPPORT. The per-instruction family EncodeLength: the bytes of an instruction are as many as its first byte asks
for (30_encoding R80 to R86). -/

namespace Sys2Proof.Laws

/-- The encoding of `i` is not empty and is as long as its first byte asks (R80). -/
def EncodeLength.Statement (i : Instr) : Prop :=
  ∃ op rest, encode i = op :: rest ∧ (encode i).length = instrLength op

theorem EncodeLength.spm (r1 : RegNum) : EncodeLength.Statement (.spm r1) := ⟨_, _, rfl, rfl⟩
theorem EncodeLength.balr (r1 r2 : RegNum) : EncodeLength.Statement (.balr r1 r2) := ⟨_, _, rfl, rfl⟩
theorem EncodeLength.bctr (r1 r2 : RegNum) : EncodeLength.Statement (.bctr r1 r2) := ⟨_, _, rfl, rfl⟩
theorem EncodeLength.bcr (m1 r2 : RegNum) : EncodeLength.Statement (.bcr m1 r2) := ⟨_, _, rfl, rfl⟩
theorem EncodeLength.ssk (r1 r2 : RegNum) : EncodeLength.Statement (.ssk r1 r2) := ⟨_, _, rfl, rfl⟩
theorem EncodeLength.isk (r1 r2 : RegNum) : EncodeLength.Statement (.isk r1 r2) := ⟨_, _, rfl, rfl⟩
theorem EncodeLength.svc (i : Byte) : EncodeLength.Statement (.svc i) := ⟨_, _, rfl, rfl⟩
theorem EncodeLength.lpr (r1 r2 : RegNum) : EncodeLength.Statement (.lpr r1 r2) := ⟨_, _, rfl, rfl⟩
theorem EncodeLength.lnr (r1 r2 : RegNum) : EncodeLength.Statement (.lnr r1 r2) := ⟨_, _, rfl, rfl⟩
theorem EncodeLength.ltr (r1 r2 : RegNum) : EncodeLength.Statement (.ltr r1 r2) := ⟨_, _, rfl, rfl⟩
theorem EncodeLength.lcr (r1 r2 : RegNum) : EncodeLength.Statement (.lcr r1 r2) := ⟨_, _, rfl, rfl⟩
theorem EncodeLength.nr (r1 r2 : RegNum) : EncodeLength.Statement (.nr r1 r2) := ⟨_, _, rfl, rfl⟩
theorem EncodeLength.clr (r1 r2 : RegNum) : EncodeLength.Statement (.clr r1 r2) := ⟨_, _, rfl, rfl⟩
theorem EncodeLength.or (r1 r2 : RegNum) : EncodeLength.Statement (.or r1 r2) := ⟨_, _, rfl, rfl⟩
theorem EncodeLength.xr (r1 r2 : RegNum) : EncodeLength.Statement (.xr r1 r2) := ⟨_, _, rfl, rfl⟩
theorem EncodeLength.lr (r1 r2 : RegNum) : EncodeLength.Statement (.lr r1 r2) := ⟨_, _, rfl, rfl⟩
theorem EncodeLength.cr (r1 r2 : RegNum) : EncodeLength.Statement (.cr r1 r2) := ⟨_, _, rfl, rfl⟩
theorem EncodeLength.ar (r1 r2 : RegNum) : EncodeLength.Statement (.ar r1 r2) := ⟨_, _, rfl, rfl⟩
theorem EncodeLength.sr (r1 r2 : RegNum) : EncodeLength.Statement (.sr r1 r2) := ⟨_, _, rfl, rfl⟩
theorem EncodeLength.mr (r1 r2 : RegNum) : EncodeLength.Statement (.mr r1 r2) := ⟨_, _, rfl, rfl⟩
theorem EncodeLength.dr (r1 r2 : RegNum) : EncodeLength.Statement (.dr r1 r2) := ⟨_, _, rfl, rfl⟩
theorem EncodeLength.alr (r1 r2 : RegNum) : EncodeLength.Statement (.alr r1 r2) := ⟨_, _, rfl, rfl⟩
theorem EncodeLength.slr (r1 r2 : RegNum) : EncodeLength.Statement (.slr r1 r2) := ⟨_, _, rfl, rfl⟩
theorem EncodeLength.lpdr (r1 r2 : RegNum) : EncodeLength.Statement (.lpdr r1 r2) := ⟨_, _, rfl, rfl⟩
theorem EncodeLength.lndr (r1 r2 : RegNum) : EncodeLength.Statement (.lndr r1 r2) := ⟨_, _, rfl, rfl⟩
theorem EncodeLength.ltdr (r1 r2 : RegNum) : EncodeLength.Statement (.ltdr r1 r2) := ⟨_, _, rfl, rfl⟩
theorem EncodeLength.lcdr (r1 r2 : RegNum) : EncodeLength.Statement (.lcdr r1 r2) := ⟨_, _, rfl, rfl⟩
theorem EncodeLength.hdr (r1 r2 : RegNum) : EncodeLength.Statement (.hdr r1 r2) := ⟨_, _, rfl, rfl⟩
theorem EncodeLength.ldr (r1 r2 : RegNum) : EncodeLength.Statement (.ldr r1 r2) := ⟨_, _, rfl, rfl⟩
theorem EncodeLength.cdr (r1 r2 : RegNum) : EncodeLength.Statement (.cdr r1 r2) := ⟨_, _, rfl, rfl⟩
theorem EncodeLength.adr (r1 r2 : RegNum) : EncodeLength.Statement (.adr r1 r2) := ⟨_, _, rfl, rfl⟩
theorem EncodeLength.sdr (r1 r2 : RegNum) : EncodeLength.Statement (.sdr r1 r2) := ⟨_, _, rfl, rfl⟩
theorem EncodeLength.mdr (r1 r2 : RegNum) : EncodeLength.Statement (.mdr r1 r2) := ⟨_, _, rfl, rfl⟩
theorem EncodeLength.ddr (r1 r2 : RegNum) : EncodeLength.Statement (.ddr r1 r2) := ⟨_, _, rfl, rfl⟩
theorem EncodeLength.awr (r1 r2 : RegNum) : EncodeLength.Statement (.awr r1 r2) := ⟨_, _, rfl, rfl⟩
theorem EncodeLength.swr (r1 r2 : RegNum) : EncodeLength.Statement (.swr r1 r2) := ⟨_, _, rfl, rfl⟩
theorem EncodeLength.lper (r1 r2 : RegNum) : EncodeLength.Statement (.lper r1 r2) := ⟨_, _, rfl, rfl⟩
theorem EncodeLength.lner (r1 r2 : RegNum) : EncodeLength.Statement (.lner r1 r2) := ⟨_, _, rfl, rfl⟩
theorem EncodeLength.lter (r1 r2 : RegNum) : EncodeLength.Statement (.lter r1 r2) := ⟨_, _, rfl, rfl⟩
theorem EncodeLength.lcer (r1 r2 : RegNum) : EncodeLength.Statement (.lcer r1 r2) := ⟨_, _, rfl, rfl⟩
theorem EncodeLength.her (r1 r2 : RegNum) : EncodeLength.Statement (.her r1 r2) := ⟨_, _, rfl, rfl⟩
theorem EncodeLength.ler (r1 r2 : RegNum) : EncodeLength.Statement (.ler r1 r2) := ⟨_, _, rfl, rfl⟩
theorem EncodeLength.cer (r1 r2 : RegNum) : EncodeLength.Statement (.cer r1 r2) := ⟨_, _, rfl, rfl⟩
theorem EncodeLength.aer (r1 r2 : RegNum) : EncodeLength.Statement (.aer r1 r2) := ⟨_, _, rfl, rfl⟩
theorem EncodeLength.ser (r1 r2 : RegNum) : EncodeLength.Statement (.ser r1 r2) := ⟨_, _, rfl, rfl⟩
theorem EncodeLength.mer (r1 r2 : RegNum) : EncodeLength.Statement (.mer r1 r2) := ⟨_, _, rfl, rfl⟩
theorem EncodeLength.der (r1 r2 : RegNum) : EncodeLength.Statement (.der r1 r2) := ⟨_, _, rfl, rfl⟩
theorem EncodeLength.aur (r1 r2 : RegNum) : EncodeLength.Statement (.aur r1 r2) := ⟨_, _, rfl, rfl⟩
theorem EncodeLength.sur (r1 r2 : RegNum) : EncodeLength.Statement (.sur r1 r2) := ⟨_, _, rfl, rfl⟩
theorem EncodeLength.sth (r1 x2 b2 : RegNum) (d2 : Disp) : EncodeLength.Statement (.sth r1 x2 b2 d2) := ⟨_, _, rfl, rfl⟩
theorem EncodeLength.la (r1 x2 b2 : RegNum) (d2 : Disp) : EncodeLength.Statement (.la r1 x2 b2 d2) := ⟨_, _, rfl, rfl⟩
theorem EncodeLength.stc (r1 x2 b2 : RegNum) (d2 : Disp) : EncodeLength.Statement (.stc r1 x2 b2 d2) := ⟨_, _, rfl, rfl⟩
theorem EncodeLength.ic (r1 x2 b2 : RegNum) (d2 : Disp) : EncodeLength.Statement (.ic r1 x2 b2 d2) := ⟨_, _, rfl, rfl⟩
theorem EncodeLength.ex (r1 x2 b2 : RegNum) (d2 : Disp) : EncodeLength.Statement (.ex r1 x2 b2 d2) := ⟨_, _, rfl, rfl⟩
theorem EncodeLength.bal (r1 x2 b2 : RegNum) (d2 : Disp) : EncodeLength.Statement (.bal r1 x2 b2 d2) := ⟨_, _, rfl, rfl⟩
theorem EncodeLength.bct (r1 x2 b2 : RegNum) (d2 : Disp) : EncodeLength.Statement (.bct r1 x2 b2 d2) := ⟨_, _, rfl, rfl⟩
theorem EncodeLength.bc (m1 x2 b2 : RegNum) (d2 : Disp) : EncodeLength.Statement (.bc m1 x2 b2 d2) := ⟨_, _, rfl, rfl⟩
theorem EncodeLength.lh (r1 x2 b2 : RegNum) (d2 : Disp) : EncodeLength.Statement (.lh r1 x2 b2 d2) := ⟨_, _, rfl, rfl⟩
theorem EncodeLength.ch (r1 x2 b2 : RegNum) (d2 : Disp) : EncodeLength.Statement (.ch r1 x2 b2 d2) := ⟨_, _, rfl, rfl⟩
theorem EncodeLength.ah (r1 x2 b2 : RegNum) (d2 : Disp) : EncodeLength.Statement (.ah r1 x2 b2 d2) := ⟨_, _, rfl, rfl⟩
theorem EncodeLength.sh (r1 x2 b2 : RegNum) (d2 : Disp) : EncodeLength.Statement (.sh r1 x2 b2 d2) := ⟨_, _, rfl, rfl⟩
theorem EncodeLength.mh (r1 x2 b2 : RegNum) (d2 : Disp) : EncodeLength.Statement (.mh r1 x2 b2 d2) := ⟨_, _, rfl, rfl⟩
theorem EncodeLength.cvd (r1 x2 b2 : RegNum) (d2 : Disp) : EncodeLength.Statement (.cvd r1 x2 b2 d2) := ⟨_, _, rfl, rfl⟩
theorem EncodeLength.cvb (r1 x2 b2 : RegNum) (d2 : Disp) : EncodeLength.Statement (.cvb r1 x2 b2 d2) := ⟨_, _, rfl, rfl⟩
theorem EncodeLength.st (r1 x2 b2 : RegNum) (d2 : Disp) : EncodeLength.Statement (.st r1 x2 b2 d2) := ⟨_, _, rfl, rfl⟩
theorem EncodeLength.n (r1 x2 b2 : RegNum) (d2 : Disp) : EncodeLength.Statement (.n r1 x2 b2 d2) := ⟨_, _, rfl, rfl⟩
theorem EncodeLength.cl (r1 x2 b2 : RegNum) (d2 : Disp) : EncodeLength.Statement (.cl r1 x2 b2 d2) := ⟨_, _, rfl, rfl⟩
theorem EncodeLength.o (r1 x2 b2 : RegNum) (d2 : Disp) : EncodeLength.Statement (.o r1 x2 b2 d2) := ⟨_, _, rfl, rfl⟩
theorem EncodeLength.x (r1 x2 b2 : RegNum) (d2 : Disp) : EncodeLength.Statement (.x r1 x2 b2 d2) := ⟨_, _, rfl, rfl⟩
theorem EncodeLength.l (r1 x2 b2 : RegNum) (d2 : Disp) : EncodeLength.Statement (.l r1 x2 b2 d2) := ⟨_, _, rfl, rfl⟩
theorem EncodeLength.c (r1 x2 b2 : RegNum) (d2 : Disp) : EncodeLength.Statement (.c r1 x2 b2 d2) := ⟨_, _, rfl, rfl⟩
theorem EncodeLength.a (r1 x2 b2 : RegNum) (d2 : Disp) : EncodeLength.Statement (.a r1 x2 b2 d2) := ⟨_, _, rfl, rfl⟩
theorem EncodeLength.s (r1 x2 b2 : RegNum) (d2 : Disp) : EncodeLength.Statement (.s r1 x2 b2 d2) := ⟨_, _, rfl, rfl⟩
theorem EncodeLength.m (r1 x2 b2 : RegNum) (d2 : Disp) : EncodeLength.Statement (.m r1 x2 b2 d2) := ⟨_, _, rfl, rfl⟩
theorem EncodeLength.d (r1 x2 b2 : RegNum) (d2 : Disp) : EncodeLength.Statement (.d r1 x2 b2 d2) := ⟨_, _, rfl, rfl⟩
theorem EncodeLength.al (r1 x2 b2 : RegNum) (d2 : Disp) : EncodeLength.Statement (.al r1 x2 b2 d2) := ⟨_, _, rfl, rfl⟩
theorem EncodeLength.sl (r1 x2 b2 : RegNum) (d2 : Disp) : EncodeLength.Statement (.sl r1 x2 b2 d2) := ⟨_, _, rfl, rfl⟩
theorem EncodeLength.std (r1 x2 b2 : RegNum) (d2 : Disp) : EncodeLength.Statement (.std r1 x2 b2 d2) := ⟨_, _, rfl, rfl⟩
theorem EncodeLength.ld (r1 x2 b2 : RegNum) (d2 : Disp) : EncodeLength.Statement (.ld r1 x2 b2 d2) := ⟨_, _, rfl, rfl⟩
theorem EncodeLength.cd (r1 x2 b2 : RegNum) (d2 : Disp) : EncodeLength.Statement (.cd r1 x2 b2 d2) := ⟨_, _, rfl, rfl⟩
theorem EncodeLength.ad (r1 x2 b2 : RegNum) (d2 : Disp) : EncodeLength.Statement (.ad r1 x2 b2 d2) := ⟨_, _, rfl, rfl⟩
theorem EncodeLength.sd (r1 x2 b2 : RegNum) (d2 : Disp) : EncodeLength.Statement (.sd r1 x2 b2 d2) := ⟨_, _, rfl, rfl⟩
theorem EncodeLength.md (r1 x2 b2 : RegNum) (d2 : Disp) : EncodeLength.Statement (.md r1 x2 b2 d2) := ⟨_, _, rfl, rfl⟩
theorem EncodeLength.dd (r1 x2 b2 : RegNum) (d2 : Disp) : EncodeLength.Statement (.dd r1 x2 b2 d2) := ⟨_, _, rfl, rfl⟩
theorem EncodeLength.aw (r1 x2 b2 : RegNum) (d2 : Disp) : EncodeLength.Statement (.aw r1 x2 b2 d2) := ⟨_, _, rfl, rfl⟩
theorem EncodeLength.sw (r1 x2 b2 : RegNum) (d2 : Disp) : EncodeLength.Statement (.sw r1 x2 b2 d2) := ⟨_, _, rfl, rfl⟩
theorem EncodeLength.ste (r1 x2 b2 : RegNum) (d2 : Disp) : EncodeLength.Statement (.ste r1 x2 b2 d2) := ⟨_, _, rfl, rfl⟩
theorem EncodeLength.le (r1 x2 b2 : RegNum) (d2 : Disp) : EncodeLength.Statement (.le r1 x2 b2 d2) := ⟨_, _, rfl, rfl⟩
theorem EncodeLength.ce (r1 x2 b2 : RegNum) (d2 : Disp) : EncodeLength.Statement (.ce r1 x2 b2 d2) := ⟨_, _, rfl, rfl⟩
theorem EncodeLength.ae (r1 x2 b2 : RegNum) (d2 : Disp) : EncodeLength.Statement (.ae r1 x2 b2 d2) := ⟨_, _, rfl, rfl⟩
theorem EncodeLength.se (r1 x2 b2 : RegNum) (d2 : Disp) : EncodeLength.Statement (.se r1 x2 b2 d2) := ⟨_, _, rfl, rfl⟩
theorem EncodeLength.me (r1 x2 b2 : RegNum) (d2 : Disp) : EncodeLength.Statement (.me r1 x2 b2 d2) := ⟨_, _, rfl, rfl⟩
theorem EncodeLength.de (r1 x2 b2 : RegNum) (d2 : Disp) : EncodeLength.Statement (.de r1 x2 b2 d2) := ⟨_, _, rfl, rfl⟩
theorem EncodeLength.au (r1 x2 b2 : RegNum) (d2 : Disp) : EncodeLength.Statement (.au r1 x2 b2 d2) := ⟨_, _, rfl, rfl⟩
theorem EncodeLength.su (r1 x2 b2 : RegNum) (d2 : Disp) : EncodeLength.Statement (.su r1 x2 b2 d2) := ⟨_, _, rfl, rfl⟩
theorem EncodeLength.idl (i2 : Byte) : EncodeLength.Statement (.idl i2) := ⟨_, _, rfl, rfl⟩
theorem EncodeLength.pc (i2 : Byte) (b1 : RegNum) (d1 : Disp) : EncodeLength.Statement (.pc i2 b1 d1) := ⟨_, _, rfl, rfl⟩
theorem EncodeLength.dig (i2 : Byte) (b1 : RegNum) (d1 : Disp) : EncodeLength.Statement (.dig i2 b1 d1) := ⟨_, _, rfl, rfl⟩
theorem EncodeLength.wrd (i2 : Byte) (b1 : RegNum) (d1 : Disp) : EncodeLength.Statement (.wrd i2 b1 d1) := ⟨_, _, rfl, rfl⟩
theorem EncodeLength.rdd (i2 : Byte) (b1 : RegNum) (d1 : Disp) : EncodeLength.Statement (.rdd i2 b1 d1) := ⟨_, _, rfl, rfl⟩
theorem EncodeLength.bxh (r1 r3 b2 : RegNum) (d2 : Disp) : EncodeLength.Statement (.bxh r1 r3 b2 d2) := ⟨_, _, rfl, rfl⟩
theorem EncodeLength.bxle (r1 r3 b2 : RegNum) (d2 : Disp) : EncodeLength.Statement (.bxle r1 r3 b2 d2) := ⟨_, _, rfl, rfl⟩
theorem EncodeLength.srl (r1 b2 : RegNum) (d2 : Disp) : EncodeLength.Statement (.srl r1 b2 d2) := ⟨_, _, rfl, rfl⟩
theorem EncodeLength.sll (r1 b2 : RegNum) (d2 : Disp) : EncodeLength.Statement (.sll r1 b2 d2) := ⟨_, _, rfl, rfl⟩
theorem EncodeLength.sra (r1 b2 : RegNum) (d2 : Disp) : EncodeLength.Statement (.sra r1 b2 d2) := ⟨_, _, rfl, rfl⟩
theorem EncodeLength.sla (r1 b2 : RegNum) (d2 : Disp) : EncodeLength.Statement (.sla r1 b2 d2) := ⟨_, _, rfl, rfl⟩
theorem EncodeLength.srdl (r1 b2 : RegNum) (d2 : Disp) : EncodeLength.Statement (.srdl r1 b2 d2) := ⟨_, _, rfl, rfl⟩
theorem EncodeLength.sldl (r1 b2 : RegNum) (d2 : Disp) : EncodeLength.Statement (.sldl r1 b2 d2) := ⟨_, _, rfl, rfl⟩
theorem EncodeLength.srda (r1 b2 : RegNum) (d2 : Disp) : EncodeLength.Statement (.srda r1 b2 d2) := ⟨_, _, rfl, rfl⟩
theorem EncodeLength.slda (r1 b2 : RegNum) (d2 : Disp) : EncodeLength.Statement (.slda r1 b2 d2) := ⟨_, _, rfl, rfl⟩
theorem EncodeLength.stm (r1 r3 b2 : RegNum) (d2 : Disp) : EncodeLength.Statement (.stm r1 r3 b2 d2) := ⟨_, _, rfl, rfl⟩
theorem EncodeLength.tm (i2 : Byte) (b1 : RegNum) (d1 : Disp) : EncodeLength.Statement (.tm i2 b1 d1) := ⟨_, _, rfl, rfl⟩
theorem EncodeLength.mvi (i2 : Byte) (b1 : RegNum) (d1 : Disp) : EncodeLength.Statement (.mvi i2 b1 d1) := ⟨_, _, rfl, rfl⟩
theorem EncodeLength.ts (b1 : RegNum) (d1 : Disp) : EncodeLength.Statement (.ts b1 d1) := ⟨_, _, rfl, rfl⟩
theorem EncodeLength.ni (i2 : Byte) (b1 : RegNum) (d1 : Disp) : EncodeLength.Statement (.ni i2 b1 d1) := ⟨_, _, rfl, rfl⟩
theorem EncodeLength.cli (i2 : Byte) (b1 : RegNum) (d1 : Disp) : EncodeLength.Statement (.cli i2 b1 d1) := ⟨_, _, rfl, rfl⟩
theorem EncodeLength.oi (i2 : Byte) (b1 : RegNum) (d1 : Disp) : EncodeLength.Statement (.oi i2 b1 d1) := ⟨_, _, rfl, rfl⟩
theorem EncodeLength.xi (i2 : Byte) (b1 : RegNum) (d1 : Disp) : EncodeLength.Statement (.xi i2 b1 d1) := ⟨_, _, rfl, rfl⟩
theorem EncodeLength.lm (r1 r3 b2 : RegNum) (d2 : Disp) : EncodeLength.Statement (.lm r1 r3 b2 d2) := ⟨_, _, rfl, rfl⟩
theorem EncodeLength.sdv (b1 : RegNum) (d1 : Disp) : EncodeLength.Statement (.sdv b1 d1) := ⟨_, _, rfl, rfl⟩
theorem EncodeLength.tdv (b1 : RegNum) (d1 : Disp) : EncodeLength.Statement (.tdv b1 d1) := ⟨_, _, rfl, rfl⟩
theorem EncodeLength.hdv (b1 : RegNum) (d1 : Disp) : EncodeLength.Statement (.hdv b1 d1) := ⟨_, _, rfl, rfl⟩
theorem EncodeLength.ckc (b1 : RegNum) (d1 : Disp) : EncodeLength.Statement (.ckc b1 d1) := ⟨_, _, rfl, rfl⟩
theorem EncodeLength.ssp (l : Byte) (b1 : RegNum) (d1 : Disp) (b2 : RegNum) (d2 : Disp) : EncodeLength.Statement (.ssp l b1 d1 b2 d2) := ⟨_, _, rfl, rfl⟩
theorem EncodeLength.mvn (l : Byte) (b1 : RegNum) (d1 : Disp) (b2 : RegNum) (d2 : Disp) : EncodeLength.Statement (.mvn l b1 d1 b2 d2) := ⟨_, _, rfl, rfl⟩
theorem EncodeLength.mvc (l : Byte) (b1 : RegNum) (d1 : Disp) (b2 : RegNum) (d2 : Disp) : EncodeLength.Statement (.mvc l b1 d1 b2 d2) := ⟨_, _, rfl, rfl⟩
theorem EncodeLength.mvz (l : Byte) (b1 : RegNum) (d1 : Disp) (b2 : RegNum) (d2 : Disp) : EncodeLength.Statement (.mvz l b1 d1 b2 d2) := ⟨_, _, rfl, rfl⟩
theorem EncodeLength.nc (l : Byte) (b1 : RegNum) (d1 : Disp) (b2 : RegNum) (d2 : Disp) : EncodeLength.Statement (.nc l b1 d1 b2 d2) := ⟨_, _, rfl, rfl⟩
theorem EncodeLength.clc (l : Byte) (b1 : RegNum) (d1 : Disp) (b2 : RegNum) (d2 : Disp) : EncodeLength.Statement (.clc l b1 d1 b2 d2) := ⟨_, _, rfl, rfl⟩
theorem EncodeLength.oc (l : Byte) (b1 : RegNum) (d1 : Disp) (b2 : RegNum) (d2 : Disp) : EncodeLength.Statement (.oc l b1 d1 b2 d2) := ⟨_, _, rfl, rfl⟩
theorem EncodeLength.xc (l : Byte) (b1 : RegNum) (d1 : Disp) (b2 : RegNum) (d2 : Disp) : EncodeLength.Statement (.xc l b1 d1 b2 d2) := ⟨_, _, rfl, rfl⟩
theorem EncodeLength.lsp (l : Byte) (b1 : RegNum) (d1 : Disp) (b2 : RegNum) (d2 : Disp) : EncodeLength.Statement (.lsp l b1 d1 b2 d2) := ⟨_, _, rfl, rfl⟩
theorem EncodeLength.tr (l : Byte) (b1 : RegNum) (d1 : Disp) (b2 : RegNum) (d2 : Disp) : EncodeLength.Statement (.tr l b1 d1 b2 d2) := ⟨_, _, rfl, rfl⟩
theorem EncodeLength.trt (l : Byte) (b1 : RegNum) (d1 : Disp) (b2 : RegNum) (d2 : Disp) : EncodeLength.Statement (.trt l b1 d1 b2 d2) := ⟨_, _, rfl, rfl⟩
theorem EncodeLength.ed (l : Byte) (b1 : RegNum) (d1 : Disp) (b2 : RegNum) (d2 : Disp) : EncodeLength.Statement (.ed l b1 d1 b2 d2) := ⟨_, _, rfl, rfl⟩
theorem EncodeLength.edmk (l : Byte) (b1 : RegNum) (d1 : Disp) (b2 : RegNum) (d2 : Disp) : EncodeLength.Statement (.edmk l b1 d1 b2 d2) := ⟨_, _, rfl, rfl⟩
theorem EncodeLength.mvo (l1 l2 b1 : RegNum) (d1 : Disp) (b2 : RegNum) (d2 : Disp) : EncodeLength.Statement (.mvo l1 l2 b1 d1 b2 d2) := ⟨_, _, rfl, rfl⟩
theorem EncodeLength.pack (l1 l2 b1 : RegNum) (d1 : Disp) (b2 : RegNum) (d2 : Disp) : EncodeLength.Statement (.pack l1 l2 b1 d1 b2 d2) := ⟨_, _, rfl, rfl⟩
theorem EncodeLength.unpk (l1 l2 b1 : RegNum) (d1 : Disp) (b2 : RegNum) (d2 : Disp) : EncodeLength.Statement (.unpk l1 l2 b1 d1 b2 d2) := ⟨_, _, rfl, rfl⟩
theorem EncodeLength.zap (l1 l2 b1 : RegNum) (d1 : Disp) (b2 : RegNum) (d2 : Disp) : EncodeLength.Statement (.zap l1 l2 b1 d1 b2 d2) := ⟨_, _, rfl, rfl⟩
theorem EncodeLength.cp (l1 l2 b1 : RegNum) (d1 : Disp) (b2 : RegNum) (d2 : Disp) : EncodeLength.Statement (.cp l1 l2 b1 d1 b2 d2) := ⟨_, _, rfl, rfl⟩
theorem EncodeLength.ap (l1 l2 b1 : RegNum) (d1 : Disp) (b2 : RegNum) (d2 : Disp) : EncodeLength.Statement (.ap l1 l2 b1 d1 b2 d2) := ⟨_, _, rfl, rfl⟩
theorem EncodeLength.sp (l1 l2 b1 : RegNum) (d1 : Disp) (b2 : RegNum) (d2 : Disp) : EncodeLength.Statement (.sp l1 l2 b1 d1 b2 d2) := ⟨_, _, rfl, rfl⟩
theorem EncodeLength.mp (l1 l2 b1 : RegNum) (d1 : Disp) (b2 : RegNum) (d2 : Disp) : EncodeLength.Statement (.mp l1 l2 b1 d1 b2 d2) := ⟨_, _, rfl, rfl⟩
theorem EncodeLength.dp (l1 l2 b1 : RegNum) (d1 : Disp) (b2 : RegNum) (d2 : Disp) : EncodeLength.Statement (.dp l1 l2 b1 d1 b2 d2) := ⟨_, _, rfl, rfl⟩

end Sys2Proof.Laws
end

