-- ==== Sys2Proof/Tests/Slice0.lean ====
section
/-! SUPPORT. The model's own tests: ill-formed terms, decoding of words the spec writes out, one step of each
instruction against the spec's vectors (95, 96, 97), and for each statement with hypotheses a state that meets them. -/

namespace Sys2Proof.Machine

/-- Bytes put into storage. -/
def State.bytesAt (s : State) (a : Addr) (bs : List Byte) : State := s.setMem (s.mem.storeBytes a bs)

/-- With the `privileged` parameter true. -/
def State.authorized (s : State) : State := { s with cfg := { s.cfg with privileged := true } }

/-- The vectors' start: `pc` is 001000, `x[12]` is 002000, and the bytes given are at `pc`. -/
def prog (word : List Byte) : State :=
  { (State.reset.setGpr 12 0x2000) with pc := 0x1000, mem := Memory.storeBytes [] 0x1000 word }

/-- What `f` gives of the state after one step; none if the step stops. -/
def after {α : Type} (s : State) (f : State → α) : Option α :=
  match step s with
  | .next t => some (f t)
  | _ => none

end Sys2Proof.Machine

namespace Sys2Proof.Tests

open Sys2Proof.Machine

/-! ### Decoding -/

/-- Words written from the `encoding` patterns of the opcode table, each field with a value of its own and
every ignored bit 1 (R81 to R86, R91, R92). -/
theorem test_decode_rr_general :
    decode [0x04, 0xAF] = .instr (.spm 10) ∧
    decode [0x05, 0xA5] = .instr (.balr 10 5) ∧
    decode [0x06, 0xA5] = .instr (.bctr 10 5) ∧
    decode [0x07, 0x95] = .instr (.bcr 9 5) ∧
    decode [0x08, 0xA5] = .instr (.ssk 10 5) ∧
    decode [0x09, 0xA5] = .instr (.isk 10 5) ∧
    decode [0x0A, 0xB5] = .instr (.svc 0xB5) ∧
    decode [0x10, 0xA5] = .instr (.lpr 10 5) ∧
    decode [0x11, 0xA5] = .instr (.lnr 10 5) ∧
    decode [0x12, 0xA5] = .instr (.ltr 10 5) ∧
    decode [0x13, 0xA5] = .instr (.lcr 10 5) ∧
    decode [0x14, 0xA5] = .instr (.nr 10 5) ∧
    decode [0x15, 0xA5] = .instr (.clr 10 5) ∧
    decode [0x16, 0xA5] = .instr (.or 10 5) ∧
    decode [0x17, 0xA5] = .instr (.xr 10 5) ∧
    decode [0x18, 0xA5] = .instr (.lr 10 5) ∧
    decode [0x19, 0xA5] = .instr (.cr 10 5) ∧
    decode [0x1A, 0xA5] = .instr (.ar 10 5) ∧
    decode [0x1B, 0xA5] = .instr (.sr 10 5) ∧
    decode [0x1C, 0xA5] = .instr (.mr 10 5) ∧
    decode [0x1D, 0xA5] = .instr (.dr 10 5) ∧
    decode [0x1E, 0xA5] = .instr (.alr 10 5) ∧
    decode [0x1F, 0xA5] = .instr (.slr 10 5) := by decide

/-- Words written from the `encoding` patterns of the opcode table, each field with a value of its own and
every ignored bit 1 (R81 to R86, R91, R92). -/
theorem test_decode_rr_floating :
    decode [0x20, 0xA5] = .instr (.lpdr 10 5) ∧
    decode [0x21, 0xA5] = .instr (.lndr 10 5) ∧
    decode [0x22, 0xA5] = .instr (.ltdr 10 5) ∧
    decode [0x23, 0xA5] = .instr (.lcdr 10 5) ∧
    decode [0x24, 0xA5] = .instr (.hdr 10 5) ∧
    decode [0x28, 0xA5] = .instr (.ldr 10 5) ∧
    decode [0x29, 0xA5] = .instr (.cdr 10 5) ∧
    decode [0x2A, 0xA5] = .instr (.adr 10 5) ∧
    decode [0x2B, 0xA5] = .instr (.sdr 10 5) ∧
    decode [0x2C, 0xA5] = .instr (.mdr 10 5) ∧
    decode [0x2D, 0xA5] = .instr (.ddr 10 5) ∧
    decode [0x2E, 0xA5] = .instr (.awr 10 5) ∧
    decode [0x2F, 0xA5] = .instr (.swr 10 5) ∧
    decode [0x30, 0xA5] = .instr (.lper 10 5) ∧
    decode [0x31, 0xA5] = .instr (.lner 10 5) ∧
    decode [0x32, 0xA5] = .instr (.lter 10 5) ∧
    decode [0x33, 0xA5] = .instr (.lcer 10 5) ∧
    decode [0x34, 0xA5] = .instr (.her 10 5) ∧
    decode [0x38, 0xA5] = .instr (.ler 10 5) ∧
    decode [0x39, 0xA5] = .instr (.cer 10 5) ∧
    decode [0x3A, 0xA5] = .instr (.aer 10 5) ∧
    decode [0x3B, 0xA5] = .instr (.ser 10 5) ∧
    decode [0x3C, 0xA5] = .instr (.mer 10 5) ∧
    decode [0x3D, 0xA5] = .instr (.der 10 5) ∧
    decode [0x3E, 0xA5] = .instr (.aur 10 5) ∧
    decode [0x3F, 0xA5] = .instr (.sur 10 5) := by decide

/-- Words written from the `encoding` patterns of the opcode table, each field with a value of its own and
every ignored bit 1 (R81 to R86, R91, R92). -/
theorem test_decode_rx_general :
    decode [0x40, 0xA3, 0xC8, 0xF1] = .instr (.sth 10 3 12 0x8F1) ∧
    decode [0x41, 0xA3, 0xC8, 0xF1] = .instr (.la 10 3 12 0x8F1) ∧
    decode [0x42, 0xA3, 0xC8, 0xF1] = .instr (.stc 10 3 12 0x8F1) ∧
    decode [0x43, 0xA3, 0xC8, 0xF1] = .instr (.ic 10 3 12 0x8F1) ∧
    decode [0x44, 0xA3, 0xC8, 0xF1] = .instr (.ex 10 3 12 0x8F1) ∧
    decode [0x45, 0xA3, 0xC8, 0xF1] = .instr (.bal 10 3 12 0x8F1) ∧
    decode [0x46, 0xA3, 0xC8, 0xF1] = .instr (.bct 10 3 12 0x8F1) ∧
    decode [0x47, 0x93, 0xC8, 0xF1] = .instr (.bc 9 3 12 0x8F1) ∧
    decode [0x48, 0xA3, 0xC8, 0xF1] = .instr (.lh 10 3 12 0x8F1) ∧
    decode [0x49, 0xA3, 0xC8, 0xF1] = .instr (.ch 10 3 12 0x8F1) ∧
    decode [0x4A, 0xA3, 0xC8, 0xF1] = .instr (.ah 10 3 12 0x8F1) ∧
    decode [0x4B, 0xA3, 0xC8, 0xF1] = .instr (.sh 10 3 12 0x8F1) ∧
    decode [0x4C, 0xA3, 0xC8, 0xF1] = .instr (.mh 10 3 12 0x8F1) ∧
    decode [0x4E, 0xA3, 0xC8, 0xF1] = .instr (.cvd 10 3 12 0x8F1) ∧
    decode [0x4F, 0xA3, 0xC8, 0xF1] = .instr (.cvb 10 3 12 0x8F1) ∧
    decode [0x50, 0xA3, 0xC8, 0xF1] = .instr (.st 10 3 12 0x8F1) ∧
    decode [0x54, 0xA3, 0xC8, 0xF1] = .instr (.n 10 3 12 0x8F1) ∧
    decode [0x55, 0xA3, 0xC8, 0xF1] = .instr (.cl 10 3 12 0x8F1) ∧
    decode [0x56, 0xA3, 0xC8, 0xF1] = .instr (.o 10 3 12 0x8F1) ∧
    decode [0x57, 0xA3, 0xC8, 0xF1] = .instr (.x 10 3 12 0x8F1) ∧
    decode [0x58, 0xA3, 0xC8, 0xF1] = .instr (.l 10 3 12 0x8F1) ∧
    decode [0x59, 0xA3, 0xC8, 0xF1] = .instr (.c 10 3 12 0x8F1) ∧
    decode [0x5A, 0xA3, 0xC8, 0xF1] = .instr (.a 10 3 12 0x8F1) ∧
    decode [0x5B, 0xA3, 0xC8, 0xF1] = .instr (.s 10 3 12 0x8F1) ∧
    decode [0x5C, 0xA3, 0xC8, 0xF1] = .instr (.m 10 3 12 0x8F1) ∧
    decode [0x5D, 0xA3, 0xC8, 0xF1] = .instr (.d 10 3 12 0x8F1) ∧
    decode [0x5E, 0xA3, 0xC8, 0xF1] = .instr (.al 10 3 12 0x8F1) ∧
    decode [0x5F, 0xA3, 0xC8, 0xF1] = .instr (.sl 10 3 12 0x8F1) := by decide

/-- Words written from the `encoding` patterns of the opcode table, each field with a value of its own and
every ignored bit 1 (R81 to R86, R91, R92). -/
theorem test_decode_rx_floating :
    decode [0x60, 0xA3, 0xC8, 0xF1] = .instr (.std 10 3 12 0x8F1) ∧
    decode [0x68, 0xA3, 0xC8, 0xF1] = .instr (.ld 10 3 12 0x8F1) ∧
    decode [0x69, 0xA3, 0xC8, 0xF1] = .instr (.cd 10 3 12 0x8F1) ∧
    decode [0x6A, 0xA3, 0xC8, 0xF1] = .instr (.ad 10 3 12 0x8F1) ∧
    decode [0x6B, 0xA3, 0xC8, 0xF1] = .instr (.sd 10 3 12 0x8F1) ∧
    decode [0x6C, 0xA3, 0xC8, 0xF1] = .instr (.md 10 3 12 0x8F1) ∧
    decode [0x6D, 0xA3, 0xC8, 0xF1] = .instr (.dd 10 3 12 0x8F1) ∧
    decode [0x6E, 0xA3, 0xC8, 0xF1] = .instr (.aw 10 3 12 0x8F1) ∧
    decode [0x6F, 0xA3, 0xC8, 0xF1] = .instr (.sw 10 3 12 0x8F1) ∧
    decode [0x70, 0xA3, 0xC8, 0xF1] = .instr (.ste 10 3 12 0x8F1) ∧
    decode [0x78, 0xA3, 0xC8, 0xF1] = .instr (.le 10 3 12 0x8F1) ∧
    decode [0x79, 0xA3, 0xC8, 0xF1] = .instr (.ce 10 3 12 0x8F1) ∧
    decode [0x7A, 0xA3, 0xC8, 0xF1] = .instr (.ae 10 3 12 0x8F1) ∧
    decode [0x7B, 0xA3, 0xC8, 0xF1] = .instr (.se 10 3 12 0x8F1) ∧
    decode [0x7C, 0xA3, 0xC8, 0xF1] = .instr (.me 10 3 12 0x8F1) ∧
    decode [0x7D, 0xA3, 0xC8, 0xF1] = .instr (.de 10 3 12 0x8F1) ∧
    decode [0x7E, 0xA3, 0xC8, 0xF1] = .instr (.au 10 3 12 0x8F1) ∧
    decode [0x7F, 0xA3, 0xC8, 0xF1] = .instr (.su 10 3 12 0x8F1) := by decide

/-- Words written from the `encoding` patterns of the opcode table, each field with a value of its own and
every ignored bit 1 (R81 to R86, R91, R92). -/
theorem test_decode_rs_si :
    decode [0x80, 0xB5, 0xFF, 0xFF] = .instr (.idl 0xB5) ∧
    decode [0x82, 0xB5, 0x72, 0xD4] = .instr (.pc 0xB5 7 0x2D4) ∧
    decode [0x83, 0xB5, 0x72, 0xD4] = .instr (.dig 0xB5 7 0x2D4) ∧
    decode [0x84, 0xB5, 0x72, 0xD4] = .instr (.wrd 0xB5 7 0x2D4) ∧
    decode [0x85, 0xB5, 0x72, 0xD4] = .instr (.rdd 0xB5 7 0x2D4) ∧
    decode [0x86, 0xA6, 0xC8, 0xF1] = .instr (.bxh 10 6 12 0x8F1) ∧
    decode [0x87, 0xA6, 0xC8, 0xF1] = .instr (.bxle 10 6 12 0x8F1) ∧
    decode [0x88, 0xAF, 0xC8, 0xF1] = .instr (.srl 10 12 0x8F1) ∧
    decode [0x89, 0xAF, 0xC8, 0xF1] = .instr (.sll 10 12 0x8F1) ∧
    decode [0x8A, 0xAF, 0xC8, 0xF1] = .instr (.sra 10 12 0x8F1) ∧
    decode [0x8B, 0xAF, 0xC8, 0xF1] = .instr (.sla 10 12 0x8F1) ∧
    decode [0x8C, 0xAF, 0xC8, 0xF1] = .instr (.srdl 10 12 0x8F1) ∧
    decode [0x8D, 0xAF, 0xC8, 0xF1] = .instr (.sldl 10 12 0x8F1) ∧
    decode [0x8E, 0xAF, 0xC8, 0xF1] = .instr (.srda 10 12 0x8F1) ∧
    decode [0x8F, 0xAF, 0xC8, 0xF1] = .instr (.slda 10 12 0x8F1) ∧
    decode [0x90, 0xA6, 0xC8, 0xF1] = .instr (.stm 10 6 12 0x8F1) ∧
    decode [0x91, 0xB5, 0x72, 0xD4] = .instr (.tm 0xB5 7 0x2D4) ∧
    decode [0x92, 0xB5, 0x72, 0xD4] = .instr (.mvi 0xB5 7 0x2D4) ∧
    decode [0x93, 0xFF, 0x72, 0xD4] = .instr (.ts 7 0x2D4) ∧
    decode [0x94, 0xB5, 0x72, 0xD4] = .instr (.ni 0xB5 7 0x2D4) ∧
    decode [0x95, 0xB5, 0x72, 0xD4] = .instr (.cli 0xB5 7 0x2D4) ∧
    decode [0x96, 0xB5, 0x72, 0xD4] = .instr (.oi 0xB5 7 0x2D4) ∧
    decode [0x97, 0xB5, 0x72, 0xD4] = .instr (.xi 0xB5 7 0x2D4) ∧
    decode [0x98, 0xA6, 0xC8, 0xF1] = .instr (.lm 10 6 12 0x8F1) ∧
    decode [0x9C, 0xFF, 0x72, 0xD4] = .instr (.sdv 7 0x2D4) ∧
    decode [0x9D, 0xFF, 0x72, 0xD4] = .instr (.tdv 7 0x2D4) ∧
    decode [0x9E, 0xFF, 0x72, 0xD4] = .instr (.hdv 7 0x2D4) ∧
    decode [0x9F, 0xFF, 0x72, 0xD4] = .instr (.ckc 7 0x2D4) := by decide

/-- Words written from the `encoding` patterns of the opcode table, each field with a value of its own and
every ignored bit 1 (R81 to R86, R91, R92). -/
theorem test_decode_ss_logical :
    decode [0xD0, 0x9C, 0x72, 0xD4, 0xC8, 0xF1] = .instr (.ssp 0x9C 7 0x2D4 12 0x8F1) ∧
    decode [0xD1, 0x9C, 0x72, 0xD4, 0xC8, 0xF1] = .instr (.mvn 0x9C 7 0x2D4 12 0x8F1) ∧
    decode [0xD2, 0x9C, 0x72, 0xD4, 0xC8, 0xF1] = .instr (.mvc 0x9C 7 0x2D4 12 0x8F1) ∧
    decode [0xD3, 0x9C, 0x72, 0xD4, 0xC8, 0xF1] = .instr (.mvz 0x9C 7 0x2D4 12 0x8F1) ∧
    decode [0xD4, 0x9C, 0x72, 0xD4, 0xC8, 0xF1] = .instr (.nc 0x9C 7 0x2D4 12 0x8F1) ∧
    decode [0xD5, 0x9C, 0x72, 0xD4, 0xC8, 0xF1] = .instr (.clc 0x9C 7 0x2D4 12 0x8F1) ∧
    decode [0xD6, 0x9C, 0x72, 0xD4, 0xC8, 0xF1] = .instr (.oc 0x9C 7 0x2D4 12 0x8F1) ∧
    decode [0xD7, 0x9C, 0x72, 0xD4, 0xC8, 0xF1] = .instr (.xc 0x9C 7 0x2D4 12 0x8F1) ∧
    decode [0xD8, 0x9C, 0x72, 0xD4, 0xC8, 0xF1] = .instr (.lsp 0x9C 7 0x2D4 12 0x8F1) ∧
    decode [0xDC, 0x9C, 0x72, 0xD4, 0xC8, 0xF1] = .instr (.tr 0x9C 7 0x2D4 12 0x8F1) ∧
    decode [0xDD, 0x9C, 0x72, 0xD4, 0xC8, 0xF1] = .instr (.trt 0x9C 7 0x2D4 12 0x8F1) ∧
    decode [0xDE, 0x9C, 0x72, 0xD4, 0xC8, 0xF1] = .instr (.ed 0x9C 7 0x2D4 12 0x8F1) ∧
    decode [0xDF, 0x9C, 0x72, 0xD4, 0xC8, 0xF1] = .instr (.edmk 0x9C 7 0x2D4 12 0x8F1) := by decide

/-- Words written from the `encoding` patterns of the opcode table, each field with a value of its own and
every ignored bit 1 (R81 to R86, R91, R92). -/
theorem test_decode_ss_decimal :
    decode [0xF1, 0xE1, 0x72, 0xD4, 0xC8, 0xF1] = .instr (.mvo 14 1 7 0x2D4 12 0x8F1) ∧
    decode [0xF2, 0xE1, 0x72, 0xD4, 0xC8, 0xF1] = .instr (.pack 14 1 7 0x2D4 12 0x8F1) ∧
    decode [0xF3, 0xE1, 0x72, 0xD4, 0xC8, 0xF1] = .instr (.unpk 14 1 7 0x2D4 12 0x8F1) ∧
    decode [0xF8, 0xE1, 0x72, 0xD4, 0xC8, 0xF1] = .instr (.zap 14 1 7 0x2D4 12 0x8F1) ∧
    decode [0xF9, 0xE1, 0x72, 0xD4, 0xC8, 0xF1] = .instr (.cp 14 1 7 0x2D4 12 0x8F1) ∧
    decode [0xFA, 0xE1, 0x72, 0xD4, 0xC8, 0xF1] = .instr (.ap 14 1 7 0x2D4 12 0x8F1) ∧
    decode [0xFB, 0xE1, 0x72, 0xD4, 0xC8, 0xF1] = .instr (.sp 14 1 7 0x2D4 12 0x8F1) ∧
    decode [0xFC, 0xE1, 0x72, 0xD4, 0xC8, 0xF1] = .instr (.mp 14 1 7 0x2D4 12 0x8F1) ∧
    decode [0xFD, 0xE1, 0x72, 0xD4, 0xC8, 0xF1] = .instr (.dp 14 1 7 0x2D4 12 0x8F1) := by decide

/-! ### One step, against the vectors of the spec -/

/-- Vector A1. -/
theorem test_spm :
    after (prog [0x04, 0x30] |>.setGpr 3 0x2A000000)
      (fun t => (t.cc, t.pm)) = some (2, 10) := by decide

/-- Vector A3. -/
theorem test_balr :
    after (prog [0x05, 0xC0] |>.setCC 2 |>.setPm 5)
      (fun t => (t.gpr 12, t.cc, t.pc)) = some (0x65001002, 2, 0x001002) := by decide

/-- Vector A8. -/
theorem test_bctr :
    after (prog [0x06, 0x30] |>.setGpr 3 0x00000005)
      (fun t => (t.gpr 3, t.cc, t.pc)) = some (0x00000004, 0, 0x001002) := by decide

/-- Vector A10. -/
theorem test_bcr :
    after (prog [0x07, 0xF0] |>.setGpr 0 0x00002000)
      (fun t => (t.cc, t.pc)) = some (0, 0x001002) := by decide

/-- Vector A16. -/
theorem test_ssk :
    after ((prog [0x08, 0x12] |>.setGpr 1 0xFFFFFFAF |>.setGpr 2 0x000027FF).authorized)
      (fun t => (t.keyAt 4, t.cc)) = some (0xA, 0) := by decide

/-- Vector A22. -/
theorem test_lpr :
    after (prog [0x10, 0x12] |>.setGpr 2 0xFFFFFFFB)
      (fun t => (t.gpr 1, t.cc)) = some (0x00000005, 2) := by decide

/-- Vector A26. -/
theorem test_lnr :
    after (prog [0x11, 0x12] |>.setGpr 2 0x00000005)
      (fun t => (t.gpr 1, t.cc)) = some (0xFFFFFFFB, 1) := by decide

/-- Vector A32. -/
theorem test_ltr :
    after (prog [0x12, 0x12] |>.setGpr 2 0x00000000 |>.setCC 2)
      (fun t => (t.gpr 1, t.cc)) = some (0x00000000, 0) := by decide

/-- Vector A29. -/
theorem test_lcr :
    after (prog [0x13, 0x12] |>.setGpr 2 0x00000000)
      (fun t => (t.gpr 1, t.cc)) = some (0x00000000, 0) := by decide

/-- Vector A74. -/
theorem test_nr :
    after (prog [0x14, 0x12] |>.setGpr 1 0xFF00FF00 |>.setGpr 2 0x0FF00FF0)
      (fun t => (t.gpr 1, t.cc)) = some (0x0F000F00, 1) := by decide

/-- Vector A71. -/
theorem test_clr :
    after (prog [0x15, 0x12] |>.setGpr 1 0xFFFFFFFF |>.setGpr 2 0x00000001)
      (fun t => (t.cc)) = some (2) := by decide

/-- Vector A76. -/
theorem test_or :
    after (prog [0x16, 0x12] |>.setGpr 1 0xF0F0F0F0 |>.setGpr 2 0x0F0F0F0F)
      (fun t => (t.gpr 1, t.cc)) = some (0xFFFFFFFF, 1) := by decide

/-- Vector A78. -/
theorem test_xr :
    after (prog [0x17, 0x12] |>.setGpr 1 0xFFFF0000 |>.setGpr 2 0x00FFFF00)
      (fun t => (t.gpr 1, t.cc)) = some (0xFF00FF00, 1) := by decide

/-- Vector A34. -/
theorem test_lr :
    after (prog [0x18, 0x12] |>.setGpr 2 0xDEADBEEF |>.setCC 1)
      (fun t => (t.gpr 1, t.cc)) = some (0xDEADBEEF, 1) := by decide

/-- Vector A68. -/
theorem test_cr :
    after (prog [0x19, 0x12] |>.setGpr 1 0xFFFFFFFF |>.setGpr 2 0x00000001)
      (fun t => (t.cc)) = some (1) := by decide

/-- Vector A35. -/
theorem test_ar :
    after (prog [0x1A, 0x12] |>.setGpr 1 0x7FFFFFFF |>.setGpr 2 0x00000001)
      (fun t => (t.gpr 1, t.cc)) = some (0x80000000, 3) := by decide

/-- Vector A42. -/
theorem test_sr :
    after (prog [0x1B, 0x12] |>.setGpr 1 0x00000000 |>.setGpr 2 0x80000000)
      (fun t => (t.gpr 1, t.cc)) = some (0x80000000, 3) := by decide

/-- Vector A46. -/
theorem test_mr :
    after (prog [0x1C, 0x45] |>.setGpr 5 0xFFFFFFFE)
      (fun t => (t.gpr 4, t.gpr 5, t.cc)) = some (0x00000000, 0x00000004, 0) := by decide

/-- Vector A50. -/
theorem test_dr :
    after (prog [0x1D, 0x46] |>.setGpr 4 0x00000000 |>.setGpr 5 0x00000007 |>.setGpr 6 0x00000002)
      (fun t => (t.gpr 4, t.gpr 5, t.cc)) = some (0x00000001, 0x00000003, 0) := by decide

/-- Vector A60. -/
theorem test_alr :
    after (prog [0x1E, 0x12] |>.setGpr 1 0x00000000 |>.setGpr 2 0x00000000)
      (fun t => (t.gpr 1, t.cc)) = some (0x00000000, 0) := by decide

/-- Vector A64. -/
theorem test_slr :
    after (prog [0x1F, 0x12] |>.setGpr 1 0x00000005 |>.setGpr 2 0x00000005)
      (fun t => (t.gpr 1, t.cc)) = some (0x00000000, 2) := by decide

/-- Vector B1. -/
theorem test_lpdr :
    after (prog [0x20, 0x02] |>.setFpr 2 0xC110000000000000)
      (fun t => (t.fpr 0, t.cc)) = some (0x4110000000000000, 2) := by decide

/-- Vector B3. -/
theorem test_lndr :
    after (prog [0x21, 0x02] |>.setFpr 2 0x0000000000000000)
      (fun t => (t.fpr 0, t.cc)) = some (0x8000000000000000, 0) := by decide

/-- Vector B4. -/
theorem test_ltdr :
    after (prog [0x22, 0x02] |>.setFpr 2 0x8000000000000000 |>.setCC 2)
      (fun t => (t.fpr 0, t.cc)) = some (0x8000000000000000, 0) := by decide

/-- Vector B6. -/
theorem test_lcdr :
    after (prog [0x23, 0x02] |>.setFpr 2 0x4110000000000000)
      (fun t => (t.fpr 0, t.cc)) = some (0xC110000000000000, 1) := by decide

/-- Vector B11. -/
theorem test_hdr :
    after (prog [0x24, 0x02] |>.setFpr 2 0x4110000000000000)
      (fun t => (t.fpr 0, t.cc)) = some (0x4108000000000000, 0) := by decide

/-- Vector B8. -/
theorem test_ldr :
    after (prog [0x28, 0x46] |>.setFpr 6 0x0123456789ABCDEF |>.setCC 3)
      (fun t => (t.fpr 4, t.cc)) = some (0x0123456789ABCDEF, 3) := by decide

/-- Vector B23. -/
theorem test_cdr :
    after (prog [0x29, 0x02] |>.setFpr 0 0xC110000000000000 |>.setFpr 2 0x4110000000000000)
      (fun t => (t.cc)) = some (1) := by decide

/-- Vector B27. -/
theorem test_adr :
    after (prog [0x2A, 0x02] |>.setFpr 0 0x4110000000000000 |>.setFpr 2 0x4110000000000000)
      (fun t => (t.fpr 0, t.cc)) = some (0x4120000000000000, 2) := by decide

/-- Vector B30. -/
theorem test_sdr :
    after (prog [0x2B, 0x02] |>.setFpr 0 0x4110000000000000 |>.setFpr 2 0x3310000000000000)
      (fun t => (t.fpr 0, t.cc)) = some (0x40FFFFFFFFFFFFFF, 2) := by decide

/-- Vector B46. -/
theorem test_mdr :
    after (prog [0x2C, 0x02] |>.setFpr 0 0x7F10000000000000 |>.setFpr 2 0x4110000000000000)
      (fun t => (t.fpr 0, t.cc)) = some (0x7F10000000000000, 0) := by decide

/-- Vector B54. -/
theorem test_ddr :
    after (prog [0x2D, 0x02] |>.setFpr 0 0x4110000000000000 |>.setFpr 2 0x4130000000000000)
      (fun t => (t.fpr 0, t.cc)) = some (0x4055555555555555, 0) := by decide

/-- Vector B40. -/
theorem test_awr :
    after (prog [0x2E, 0x02] |>.setFpr 0 0x4110000000000000 |>.setFpr 2 0x4300000000000001)
      (fun t => (t.fpr 0, t.cc)) = some (0x4300100000000001, 2) := by decide

/-- Vector B43. -/
theorem test_swr :
    after (prog [0x2F, 0x00] |>.setFpr 0 0x4300000000000123)
      (fun t => (t.fpr 0, t.cc)) = some (0x0000000000000000, 0) := by decide

/-- Vector B17. -/
theorem test_lper :
    after (prog [0x30, 0x02] |>.setFpr 0 0x1111111122222222 |>.setFpr 2 0xC1234567FFFFFFFF)
      (fun t => (t.fpr 0, t.cc)) = some (0x4123456722222222, 2) := by decide

/-- Vector B18. -/
theorem test_lner :
    after (prog [0x31, 0x02] |>.setFpr 0 0x0000000000000000 |>.setFpr 2 0x0000000099999999)
      (fun t => (t.fpr 0, t.cc)) = some (0x8000000000000000, 0) := by decide

/-- Vector B19. -/
theorem test_lter :
    after (prog [0x32, 0x02] |>.setFpr 0 0x0000000000000000 |>.setFpr 2 0x00000000FFFFFFFF |>.setCC 1)
      (fun t => (t.fpr 0, t.cc)) = some (0x0000000000000000, 0) := by decide

/-- Vector B20. -/
theorem test_lcer :
    after (prog [0x33, 0x00] |>.setFpr 0 0x4110000000000007)
      (fun t => (t.fpr 0, t.cc)) = some (0xC110000000000007, 1) := by decide

/-- Vector B14. -/
theorem test_her :
    after (prog [0x34, 0x02] |>.setFpr 0 0x00000000AAAAAAAA |>.setFpr 2 0x4100000155555555)
      (fun t => (t.fpr 0, t.cc)) = some (0x41000000AAAAAAAA, 0) := by decide

/-- Vector B16. -/
theorem test_ler :
    after (prog [0x38, 0x02] |>.setFpr 0 0x1111111122222222 |>.setFpr 2 0xC1234567FFFFFFFF)
      (fun t => (t.fpr 0, t.cc)) = some (0xC123456722222222, 0) := by decide

/-- Vector B26. -/
theorem test_cer :
    after (prog [0x39, 0x02] |>.setFpr 0 0x41100000FFFFFFFF |>.setFpr 2 0x4110000000000000 |>.setCC 3)
      (fun t => (t.cc)) = some (0) := by decide

/-- Vector B59. -/
theorem test_aer :
    after (prog [0x3A, 0x02] |>.setFpr 0 0x41100000AAAAAAAA |>.setFpr 2 0x41100000BBBBBBBB)
      (fun t => (t.fpr 0, t.cc)) = some (0x41200000AAAAAAAA, 2) := by decide

/-- Vector B60. -/
theorem test_ser :
    after (prog [0x3B, 0x02] |>.setFpr 0 0x41100000AAAAAAAA |>.setFpr 2 0x41100000BBBBBBBB)
      (fun t => (t.fpr 0, t.cc)) = some (0x00000000AAAAAAAA, 0) := by decide

/-- Vector B65. -/
theorem test_mer :
    after (prog [0x3C, 0x02] |>.setFpr 0 0x41200000FFFFFFFF |>.setFpr 2 0x4130000000000000)
      (fun t => (t.fpr 0, t.cc)) = some (0x4160000000000000, 0) := by decide

/-- Vector B67. -/
theorem test_der :
    after (prog [0x3D, 0x02] |>.setFpr 0 0x41600000CCCCCCCC |>.setFpr 2 0x4120000000000000)
      (fun t => (t.fpr 0, t.cc)) = some (0x41300000CCCCCCCC, 0) := by decide

/-- Vector B63. -/
theorem test_aur :
    after (prog [0x3E, 0x02] |>.setFpr 0 0x4010000000000000 |>.setFpr 2 0x4600000000000000)
      (fun t => (t.fpr 0, t.cc)) = some (0x4600000000000000, 0) := by decide

/-- Vector B64. -/
theorem test_sur :
    after (prog [0x3F, 0x02] |>.setFpr 0 0x4312345600000000 |>.setFpr 2 0x4300000100000000)
      (fun t => (t.fpr 0, t.cc)) = some (0x4312345500000000, 2) := by decide

/-- Vector C16. -/
theorem test_sth :
    after (prog [0x40, 0x10, 0xC0, 0x02] |>.setGpr 1 0x12345678 |>.bytesAt 0x002000 [0xAA, 0xAA, 0xAA, 0xAA])
      (fun t => (t.mem.bytes 0x002000 4, t.cc)) = some (some [0xAA, 0xAA, 0x56, 0x78], 0) := by decide

/-- Vector C2. -/
theorem test_la :
    after (prog [0x41, 0x50, 0x0F, 0xFF])
      (fun t => (t.gpr 5, t.cc)) = some (0x00000FFF, 0) := by decide

/-- Vector C18. -/
theorem test_stc :
    after (prog [0x42, 0x10, 0xC0, 0x03] |>.setGpr 1 0x12345678 |>.bytesAt 0x002000 [0xAA, 0xAA, 0xAA, 0xAA])
      (fun t => (t.mem.bytes 0x002000 4, t.cc)) = some (some [0xAA, 0xAA, 0xAA, 0x78], 0) := by decide

/-- Vector C19. -/
theorem test_ic :
    after (prog [0x43, 0x10, 0xC0, 0x01] |>.setGpr 1 0xFFFFFFFF |>.bytesAt 0x002000 [0x00, 0x99] |>.setCC 2)
      (fun t => (t.gpr 1, t.cc)) = some (0xFFFFFF99, 2) := by decide

/-- Vector C75. -/
theorem test_ex :
    after (prog [0x44, 0x10, 0xC0, 0x00] |>.setGpr 1 0x000000E0 |>.bytesAt 0x002000 [0x05, 0x00] |>.setCC 1)
      (fun t => (t.gpr 14, t.cc)) = some (0x90001004, 1) := by decide

/-- Vector C84. -/
theorem test_bal :
    after (prog [0x45, 0xC0, 0xC0, 0x04] |>.setCC 1 |>.setPm 10)
      (fun t => (t.gpr 12, t.cc, t.pc)) = some (0x9A001004, 1, 0x002004) := by decide

/-- Vector C86. -/
theorem test_bct :
    after (prog [0x46, 0x10, 0xC0, 0x00] |>.setGpr 1 0x00000001)
      (fun t => (t.gpr 1, t.cc, t.pc)) = some (0x00000000, 0, 0x001004) := by decide

/-- Vector C97. -/
theorem test_bc :
    after (prog [0x47, 0xF0, 0xC0, 0x01] |>.setCC 2)
      (fun t => (t.cc, t.pc)) = some (2, 0x002001) := by decide

/-- Vector C20. -/
theorem test_lh :
    after (prog [0x48, 0x10, 0xC0, 0x00] |>.bytesAt 0x002000 [0x80, 0x01])
      (fun t => (t.gpr 1, t.cc)) = some (0xFFFF8001, 0) := by decide

/-- Vector C23. -/
theorem test_ch :
    after (prog [0x49, 0x10, 0xC0, 0x00] |>.setGpr 1 0xFFFFFFFF |>.bytesAt 0x002000 [0x00, 0x01])
      (fun t => (t.cc)) = some (1) := by decide

/-- Vector C26. -/
theorem test_ah :
    after (prog [0x4A, 0x10, 0xC0, 0x00] |>.setGpr 1 0x7FFFFFFF |>.bytesAt 0x002000 [0x00, 0x01])
      (fun t => (t.gpr 1, t.cc)) = some (0x80000000, 3) := by decide

/-- Vector C29. -/
theorem test_sh :
    after (prog [0x4B, 0x10, 0xC0, 0x00] |>.setGpr 1 0x80000000 |>.bytesAt 0x002000 [0x00, 0x01])
      (fun t => (t.gpr 1, t.cc)) = some (0x7FFFFFFF, 3) := by decide

/-- Vector C31. -/
theorem test_mh :
    after (prog [0x4C, 0x10, 0xC0, 0x00] |>.setGpr 1 0xFFFFFFFE |>.bytesAt 0x002000 [0xFF, 0xFD] |>.setCC 1)
      (fun t => (t.gpr 1, t.cc)) = some (0x00000006, 1) := by decide

/-- Vector C65. -/
theorem test_cvd :
    after (prog [0x4E, 0x10, 0xC0, 0x00] |>.setGpr 1 0x80000000)
      (fun t => (t.mem.bytes 0x002000 8, t.cc))
        = some (some [0x00, 0x00, 0x02, 0x14, 0x74, 0x83, 0x64, 0x8D], 0) := by decide

/-- Vector C53. -/
theorem test_cvb :
    after (prog [0x4F, 0x10, 0xC0, 0x00] |>.bytesAt 0x002000 [0x00, 0x00, 0x00, 0x00, 0x00, 0x00, 0x12, 0x3D])
      (fun t => (t.gpr 1, t.cc)) = some (0xFFFFFF85, 0) := by decide

/-- Vector C13. -/
theorem test_st :
    after (prog [0x50, 0x10, 0xC0, 0x00] |>.setGpr 1 0x12345678)
      (fun t => (t.mem.bytes 0x002000 4, t.cc)) = some (some [0x12, 0x34, 0x56, 0x78], 0) := by decide

/-- Vector C45. -/
theorem test_n :
    after (prog [0x54, 0x10, 0xC0, 0x00] |>.setGpr 1 0x0000FFFF |>.bytesAt 0x002000 [0xFF, 0xFF, 0x00, 0x00] |>.setCC 3)
      (fun t => (t.gpr 1, t.cc)) = some (0x00000000, 0) := by decide

/-- Vector C38. -/
theorem test_cl :
    after (prog [0x55, 0x10, 0xC0, 0x00] |>.setGpr 1 0x80000000 |>.bytesAt 0x002000 [0x7F, 0xFF, 0xFF, 0xFF])
      (fun t => (t.cc)) = some (2) := by decide

/-- Vector C46. -/
theorem test_o :
    after (prog [0x56, 0x10, 0xC0, 0x00] |>.setGpr 1 0x0000FFFF |>.bytesAt 0x002000 [0xFF, 0xFF, 0x00, 0x00])
      (fun t => (t.gpr 1, t.cc)) = some (0xFFFFFFFF, 1) := by decide

/-- Vector C47. -/
theorem test_x :
    after (prog [0x57, 0x10, 0xC0, 0x00] |>.setGpr 1 0x0000FFFF |>.bytesAt 0x002000 [0x00, 0x00, 0xFF, 0xFF] |>.setCC 1)
      (fun t => (t.gpr 1, t.cc)) = some (0x00000000, 0) := by decide

/-- Vector C7. -/
theorem test_l :
    after (prog [0x58, 0x12, 0xC0, 0x04] |>.setGpr 2 0x00000004 |>.bytesAt 0x002008 [0xCA, 0xFE, 0xBA, 0xBE])
      (fun t => (t.gpr 1, t.cc)) = some (0xCAFEBABE, 0) := by decide

/-- Vector C37. -/
theorem test_c :
    after (prog [0x59, 0x10, 0xC0, 0x00] |>.setGpr 1 0x80000000 |>.bytesAt 0x002000 [0x7F, 0xFF, 0xFF, 0xFF])
      (fun t => (t.cc)) = some (1) := by decide

/-- Vector C34. -/
theorem test_a :
    after (prog [0x5A, 0x10, 0xC0, 0x00] |>.setGpr 1 0xFFFFFFFF |>.bytesAt 0x002000 [0x00, 0x00, 0x00, 0x01])
      (fun t => (t.gpr 1, t.cc)) = some (0x00000000, 0) := by decide

/-- Vector C35. -/
theorem test_s :
    after (prog [0x5B, 0x10, 0xC0, 0x00] |>.setGpr 1 0x00000000 |>.bytesAt 0x002000 [0x80, 0x00, 0x00, 0x00])
      (fun t => (t.gpr 1, t.cc)) = some (0x80000000, 3) := by decide

/-- Vector C39. -/
theorem test_m :
    after (prog [0x5C, 0x40, 0xC0, 0x00] |>.setGpr 5 0x00010000 |>.bytesAt 0x002000 [0x00, 0x01, 0x00, 0x00])
      (fun t => (t.gpr 4, t.gpr 5, t.cc)) = some (0x00000001, 0x00000000, 0) := by decide

/-- Vector C42. -/
theorem test_d :
    after (prog [0x5D, 0x40, 0xC0, 0x00] |>.setGpr 4 0x00000000 |>.setGpr 5 0x00000064
        |>.bytesAt 0x002000 [0x00, 0x00, 0x00, 0x07])
      (fun t => (t.gpr 4, t.gpr 5, t.cc)) = some (0x00000002, 0x0000000E, 0) := by decide

/-- Vector C48. -/
theorem test_al :
    after (prog [0x5E, 0x10, 0xC0, 0x00] |>.setGpr 1 0x80000000 |>.bytesAt 0x002000 [0x80, 0x00, 0x00, 0x00])
      (fun t => (t.gpr 1, t.cc)) = some (0x00000000, 2) := by decide

/-- Vector C50. -/
theorem test_sl :
    after (prog [0x5F, 0x10, 0xC0, 0x00] |>.setGpr 1 0x00000001 |>.bytesAt 0x002000 [0x00, 0x00, 0x00, 0x02])
      (fun t => (t.gpr 1, t.cc)) = some (0xFFFFFFFF, 1) := by decide

/-- Vector D7. -/
theorem test_std :
    after (prog [0x60, 0x20, 0xC0, 0x00] |>.setFpr 2 0x0123456789ABCDEF)
      (fun t => (t.mem.bytes 0x002000 8, t.cc))
        = some (some [0x01, 0x23, 0x45, 0x67, 0x89, 0xAB, 0xCD, 0xEF], 0) := by decide

/-- Vector D1. -/
theorem test_ld :
    after (prog [0x68, 0x00, 0xC0, 0x00] |>.bytesAt 0x002000 [0x41, 0x10, 0x00, 0x00, 0x00, 0x00, 0x00, 0x01]
        |>.setCC 2)
      (fun t => (t.fpr 0, t.cc)) = some (0x4110000000000001, 2) := by decide

/-- Vector D15. -/
theorem test_cd :
    after (prog [0x69, 0x00, 0xC0, 0x00] |>.setFpr 0 0x4110000000000000
        |>.bytesAt 0x002000 [0x41, 0x20, 0x00, 0x00, 0x00, 0x00, 0x00, 0x00])
      (fun t => (t.cc)) = some (1) := by decide

/-- Vector D12. -/
theorem test_ad :
    after (prog [0x6A, 0x00, 0xC0, 0x00] |>.setFpr 0 0x4110000000000000
        |>.bytesAt 0x002000 [0x40, 0x80, 0x00, 0x00, 0x00, 0x00, 0x00, 0x00])
      (fun t => (t.fpr 0, t.cc)) = some (0x4118000000000000, 2) := by decide

/-- Vector D13. -/
theorem test_sd :
    after (prog [0x6B, 0x00, 0xC0, 0x00] |>.setFpr 0 0x4110000000000000
        |>.bytesAt 0x002000 [0x41, 0x10, 0x00, 0x00, 0x00, 0x00, 0x00, 0x00] |>.setCC 2)
      (fun t => (t.fpr 0, t.cc)) = some (0x0000000000000000, 0) := by decide

/-- Vector D16. -/
theorem test_md :
    after (prog [0x6C, 0x00, 0xC0, 0x00] |>.setFpr 0 0x4118000000000000
        |>.bytesAt 0x002000 [0x41, 0x30, 0x00, 0x00, 0x00, 0x00, 0x00, 0x00])
      (fun t => (t.fpr 0, t.cc)) = some (0x4148000000000000, 0) := by decide

/-- Vector D17. -/
theorem test_dd :
    after (prog [0x6D, 0x00, 0xC0, 0x00] |>.setFpr 0 0x4148000000000000
        |>.bytesAt 0x002000 [0x41, 0x20, 0x00, 0x00, 0x00, 0x00, 0x00, 0x00])
      (fun t => (t.fpr 0, t.cc)) = some (0x4124000000000000, 0) := by decide

/-- Vector D19. -/
theorem test_aw :
    after (prog [0x6E, 0x00, 0xC0, 0x00] |>.setFpr 0 0x4110000000000000
        |>.bytesAt 0x002000 [0x4E, 0x00, 0x00, 0x00, 0x00, 0x00, 0x00, 0x01])
      (fun t => (t.fpr 0, t.cc)) = some (0x4E00000000000002, 2) := by decide

/-- Vector D20. -/
theorem test_sw :
    after (prog [0x6F, 0x00, 0xC0, 0x00] |>.setFpr 0 0x4E00000000000005
        |>.bytesAt 0x002000 [0x4E, 0x00, 0x00, 0x00, 0x00, 0x00, 0x00, 0x03])
      (fun t => (t.fpr 0, t.cc)) = some (0x4E00000000000002, 2) := by decide

/-- Vector D9. -/
theorem test_ste :
    after (prog [0x70, 0x20, 0xC0, 0x04] |>.setFpr 2 0x0123456789ABCDEF)
      (fun t => (t.mem.bytes 0x002004 4, t.cc)) = some (some [0x01, 0x23, 0x45, 0x67], 0) := by decide

/-- Vector D5. -/
theorem test_le :
    after (prog [0x78, 0x00, 0xC0, 0x04] |>.setFpr 0 0x1111111122222222 |>.bytesAt 0x002004 [0xC1, 0x23, 0x45, 0x67])
      (fun t => (t.fpr 0, t.cc)) = some (0xC123456722222222, 0) := by decide

/-- Vector D23. -/
theorem test_ce :
    after (prog [0x79, 0x00, 0xC0, 0x00] |>.setFpr 0 0xC1100000DDDDDDDD |>.bytesAt 0x002000 [0xC1, 0x20, 0x00, 0x00])
      (fun t => (t.cc)) = some (2) := by decide

/-- Vector D21. -/
theorem test_ae :
    after (prog [0x7A, 0x00, 0xC0, 0x00] |>.setFpr 0 0x41100000DDDDDDDD |>.bytesAt 0x002000 [0xC1, 0x20, 0x00, 0x00])
      (fun t => (t.fpr 0, t.cc)) = some (0xC1100000DDDDDDDD, 1) := by decide

/-- Vector D22. -/
theorem test_se :
    after (prog [0x7B, 0x00, 0xC0, 0x00] |>.setFpr 0 0x41100000DDDDDDDD |>.bytesAt 0x002000 [0xC1, 0x20, 0x00, 0x00])
      (fun t => (t.fpr 0, t.cc)) = some (0x41300000DDDDDDDD, 2) := by decide

/-- Vector D24. -/
theorem test_me :
    after (prog [0x7C, 0x00, 0xC0, 0x00] |>.setFpr 0 0x41200000DDDDDDDD |>.bytesAt 0x002000 [0x41, 0x30, 0x00, 0x00])
      (fun t => (t.fpr 0, t.cc)) = some (0x4160000000000000, 0) := by decide

/-- Vector D25. -/
theorem test_de :
    after (prog [0x7D, 0x00, 0xC0, 0x00] |>.setFpr 0 0x41600000DDDDDDDD |>.bytesAt 0x002000 [0x41, 0x30, 0x00, 0x00])
      (fun t => (t.fpr 0, t.cc)) = some (0x41200000DDDDDDDD, 0) := by decide

/-- Vector D26. -/
theorem test_au :
    after (prog [0x7E, 0x00, 0xC0, 0x00] |>.setFpr 0 0x41100000DDDDDDDD |>.bytesAt 0x002000 [0x42, 0x00, 0x00, 0x01])
      (fun t => (t.fpr 0, t.cc)) = some (0x42010001DDDDDDDD, 2) := by decide

/-- Vector D27. -/
theorem test_su :
    after (prog [0x7F, 0x00, 0xC0, 0x00] |>.setFpr 0 0x42000001DDDDDDDD |>.bytesAt 0x002000 [0x42, 0x00, 0x00, 0x01])
      (fun t => (t.fpr 0, t.cc)) = some (0x00000000DDDDDDDD, 0) := by decide

/-- Vector E7. -/
theorem test_bxh :
    after (prog [0x86, 0x13, 0xC0, 0x00] |>.setGpr 1 0x00000001 |>.setGpr 3 0x00000005)
      (fun t => (t.gpr 1, t.cc, t.pc)) = some (0x00000006, 0, 0x002000) := by decide

/-- Vector E6. -/
theorem test_bxle :
    after (prog [0x87, 0x13, 0xC0, 0x00] |>.setGpr 1 0x00000001 |>.setGpr 3 0x00000005)
      (fun t => (t.gpr 1, t.cc, t.pc)) = some (0x00000006, 0, 0x001004) := by decide

/-- Vector E13. -/
theorem test_srl :
    after (prog [0x88, 0x10, 0x00, 0x20] |>.setGpr 1 0xFFFFFFFF)
      (fun t => (t.gpr 1, t.cc)) = some (0x00000000, 0) := by decide

/-- Vector E19. -/
theorem test_sll :
    after (prog [0x89, 0x10, 0x00, 0x21] |>.setGpr 1 0xFFFFFFFF)
      (fun t => (t.gpr 1, t.cc)) = some (0x00000000, 0) := by decide

/-- Vector E21. -/
theorem test_sra :
    after (prog [0x8A, 0x10, 0x00, 0x1F] |>.setGpr 1 0x80000000)
      (fun t => (t.gpr 1, t.cc)) = some (0xFFFFFFFF, 1) := by decide

/-- Vector E28. -/
theorem test_sla :
    after (prog [0x8B, 0x10, 0x00, 0x20] |>.setGpr 1 0x00000001)
      (fun t => (t.gpr 1, t.cc)) = some (0x00000000, 3) := by decide

/-- Vector E32. -/
theorem test_srdl :
    after (prog [0x8C, 0x20, 0x00, 0x20] |>.setGpr 2 0x12345678 |>.setGpr 3 0x9ABCDEF0)
      (fun t => (t.gpr 2, t.gpr 3, t.cc)) = some (0x00000000, 0x12345678, 0) := by decide

/-- Vector E34. -/
theorem test_sldl :
    after (prog [0x8D, 0x20, 0x00, 0x24] |>.setGpr 2 0x12345678 |>.setGpr 3 0x9ABCDEF0)
      (fun t => (t.gpr 2, t.gpr 3, t.cc)) = some (0xABCDEF00, 0x00000000, 0) := by decide

/-- Vector E36. -/
theorem test_srda :
    after (prog [0x8E, 0x20, 0x00, 0x3F] |>.setGpr 2 0x80000000 |>.setGpr 3 0x00000000)
      (fun t => (t.gpr 2, t.gpr 3, t.cc)) = some (0xFFFFFFFF, 0xFFFFFFFF, 1) := by decide

/-- Vector E40. -/
theorem test_slda :
    after (prog [0x8F, 0x20, 0x00, 0x01] |>.setGpr 2 0x40000000 |>.setGpr 3 0x00000000)
      (fun t => (t.gpr 2, t.gpr 3, t.cc)) = some (0x00000000, 0x00000000, 3) := by decide

/-- Vector E47. -/
theorem test_stm :
    after (prog [0x90, 0x55, 0xC0, 0x04] |>.setGpr 5 0x55555555)
      (fun t => (t.mem.bytes 0x002004 4, t.cc)) = some (some [0x55, 0x55, 0x55, 0x55], 0) := by decide

/-- Vector E59. -/
theorem test_tm :
    after (prog [0x91, 0x80, 0xC0, 0x00] |>.bytesAt 0x002000 [0x80])
      (fun t => (t.cc)) = some (3) := by decide

/-- Vector E60. -/
theorem test_mvi :
    after (prog [0x92, 0x5A, 0xC0, 0x03] |>.bytesAt 0x002000 [0x00, 0x00, 0x00, 0x00] |>.setCC 2)
      (fun t => (t.mem.bytes 0x002000 4, t.cc)) = some (some [0x00, 0x00, 0x00, 0x5A], 2) := by decide

/-- Vector E62. -/
theorem test_ts :
    after (prog [0x93, 0x00, 0xC0, 0x00] |>.bytesAt 0x002000 [0x7F] |>.setCC 3)
      (fun t => (t.mem.bytes 0x002000 1, t.cc)) = some (some [0xFF], 0) := by decide

/-- Vector E65. -/
theorem test_ni :
    after (prog [0x94, 0x3C, 0xC0, 0x00] |>.bytesAt 0x002000 [0xFF])
      (fun t => (t.mem.bytes 0x002000 1, t.cc)) = some (some [0x3C], 1) := by decide

/-- Vector E70. -/
theorem test_cli :
    after (prog [0x95, 0x80, 0xC0, 0x00] |>.bytesAt 0x002000 [0x7F])
      (fun t => (t.cc)) = some (1) := by decide

/-- Vector E66. -/
theorem test_oi :
    after (prog [0x96, 0x00, 0xC0, 0x00] |>.bytesAt 0x002000 [0x00] |>.setCC 3)
      (fun t => (t.mem.bytes 0x002000 1, t.cc)) = some (some [0x00], 0) := by decide

/-- Vector E69. -/
theorem test_xi :
    after (prog [0x97, 0x80, 0xC0, 0x00] |>.bytesAt 0x002000 [0x01])
      (fun t => (t.mem.bytes 0x002000 1, t.cc)) = some (some [0x81], 1) := by decide

/-- Vector E51. -/
theorem test_lm :
    after (prog [0x98, 0xBD, 0xC0, 0x00]
        |>.bytesAt 0x002000 [0x00, 0x00, 0x00, 0x0B, 0x00, 0x00, 0x30, 0x00, 0x00, 0x00, 0x0D, 0x0D])
      (fun t => (t.gpr 11, t.gpr 12, t.gpr 13)) = some (0x0000000B, 0x00003000, 0x00000D0D) := by decide

/-- Vector F7. -/
theorem test_mvn :
    after (prog [0xD1, 0x01, 0xC0, 0x00, 0xC0, 0x10] |>.bytesAt 0x002000 [0xAB, 0xCD] |>.bytesAt 0x002010 [0x12, 0x34])
      (fun t => (t.mem.bytes 0x002000 2, t.cc)) = some (some [0xA2, 0xC4], 0) := by decide

/-- Vector F3. -/
theorem test_mvc :
    after (prog [0xD2, 0x04, 0xC0, 0x01, 0xC0, 0x00] |>.bytesAt 0x002000 [0xC1, 0xC2, 0xC3, 0xC4, 0xC5, 0xC6])
      (fun t => (t.mem.bytes 0x002000 6, t.cc)) = some (some [0xC1, 0xC1, 0xC1, 0xC1, 0xC1, 0xC1], 0) := by decide

/-- Vector F8. -/
theorem test_mvz :
    after (prog [0xD3, 0x01, 0xC0, 0x00, 0xC0, 0x10] |>.bytesAt 0x002000 [0xAB, 0xCD] |>.bytesAt 0x002010 [0x12, 0x34])
      (fun t => (t.mem.bytes 0x002000 2, t.cc)) = some (some [0x1B, 0x3D], 0) := by decide

/-- Vector F10. -/
theorem test_nc :
    after (prog [0xD4, 0x01, 0xC0, 0x00, 0xC0, 0x10] |>.bytesAt 0x002000 [0xF0, 0xF1] |>.bytesAt 0x002010 [0x0F, 0x0F])
      (fun t => (t.mem.bytes 0x002000 2, t.cc)) = some (some [0x00, 0x01], 1) := by decide

/-- Vector F18. -/
theorem test_clc :
    after (prog [0xD5, 0x00, 0xC0, 0x00, 0xC0, 0x10] |>.bytesAt 0x002000 [0x00] |>.bytesAt 0x002010 [0x00])
      (fun t => (t.cc)) = some (0) := by decide

/-- Vector F12. -/
theorem test_oc :
    after (prog [0xD6, 0x01, 0xC0, 0x00, 0xC0, 0x10] |>.bytesAt 0x002000 [0x00, 0xF0] |>.bytesAt 0x002010 [0x0F, 0x00])
      (fun t => (t.mem.bytes 0x002000 2, t.cc)) = some (some [0x0F, 0xF0], 1) := by decide

/-- Vector F14. -/
theorem test_xc :
    after (prog [0xD7, 0x01, 0xC0, 0x00, 0xC0, 0x10] |>.bytesAt 0x002000 [0xFF, 0x00] |>.bytesAt 0x002010 [0x0F, 0xF0])
      (fun t => (t.mem.bytes 0x002000 2, t.cc)) = some (some [0xF0, 0xF0], 1) := by decide

/-- Vector F21. -/
theorem test_tr :
    after (prog [0xDC, 0x00, 0xC0, 0x00, 0xC0, 0x00] |>.bytesAt 0x002000 [0x03, 0x05, 0x07, 0x0B])
      (fun t => (t.mem.bytes 0x002000 4, t.cc)) = some (some [0x0B, 0x05, 0x07, 0x0B], 0) := by decide

/-- Vector F34. -/
theorem test_ed :
    after (prog [0xDE, 0x02, 0xC0, 0x00, 0xC0, 0x10] |>.bytesAt 0x002000 [0x40, 0x20, 0x20]
        |>.bytesAt 0x002010 [0x1A, 0x3C])
      (fun t => (t.mem.bytes 0x002000 3, t.cc)) = some (some [0x40, 0xF1, 0xF3], 2) := by decide

/-- Vector F39. -/
theorem test_edmk :
    after (prog [0xDF, 0x05, 0xC0, 0x00, 0xC0, 0x10] |>.setGpr 1 0xAA000000
        |>.bytesAt 0x002000 [0x40, 0x20, 0x20, 0x21, 0x20, 0x20] |>.bytesAt 0x002010 [0x00, 0x12, 0x3C])
      (fun t => (t.gpr 1, t.mem.bytes 0x002000 6, t.cc))
        = some (0xAA002003, some [0x40, 0x40, 0x40, 0xF1, 0xF2, 0xF3], 2) := by decide

/-- Vector G2. -/
theorem test_mvo :
    after (prog [0xF1, 0x12, 0xC0, 0x00, 0xC0, 0x10] |>.bytesAt 0x002000 [0xAA, 0xAC]
        |>.bytesAt 0x002010 [0x12, 0x34, 0x56])
      (fun t => (t.mem.bytes 0x002000 2, t.cc)) = some (some [0x45, 0x6C], 0) := by decide

/-- Vector G7. -/
theorem test_pack :
    after (prog [0xF2, 0x31, 0xC0, 0x00, 0xC0, 0x10] |>.bytesAt 0x002000 [0xAA, 0xAA, 0xAA, 0xAA]
        |>.bytesAt 0x002010 [0xF1, 0xD2])
      (fun t => (t.mem.bytes 0x002000 4, t.cc)) = some (some [0x00, 0x00, 0x01, 0x2D], 0) := by decide

/-- Vector G10. -/
theorem test_unpk :
    after (prog [0xF3, 0x12, 0xC0, 0x00, 0xC0, 0x10] |>.bytesAt 0x002000 [0xAA, 0xAA]
        |>.bytesAt 0x002010 [0x12, 0x34, 0x5C])
      (fun t => (t.mem.bytes 0x002000 2, t.cc)) = some (some [0xF4, 0xC5], 0) := by decide

/-- Vector G15. -/
theorem test_zap :
    after (prog [0xF8, 0x10, 0xC0, 0x00, 0xC0, 0x10] |>.bytesAt 0x002000 [0xAA, 0xAA] |>.bytesAt 0x002010 [0x5F])
      (fun t => (t.mem.bytes 0x002000 2, t.cc)) = some (some [0x00, 0x5C], 2) := by decide

/-- Vector G59. -/
theorem test_cp :
    after (prog [0xF9, 0x01, 0xC0, 0x00, 0xC0, 0x10] |>.bytesAt 0x002000 [0x1C] |>.bytesAt 0x002010 [0x00, 0x1D])
      (fun t => (t.cc)) = some (2) := by decide

/-- Vector G60. -/
theorem test_ap :
    after (prog [0xFA, 0x10, 0xC0, 0x00, 0xC0, 0x10] |>.bytesAt 0x002000 [0x01, 0x2C] |>.bytesAt 0x002010 [0x9D])
      (fun t => (t.mem.bytes 0x002000 2, t.cc)) = some (some [0x00, 0x3C], 2) := by decide

/-- Vector G33. -/
theorem test_sp :
    after (prog [0xFB, 0x11, 0xC0, 0x00, 0xC0, 0x10] |>.bytesAt 0x002000 [0x00, 0x1C] |>.bytesAt 0x002010 [0x00, 0x2C])
      (fun t => (t.mem.bytes 0x002000 2, t.cc)) = some (some [0x00, 0x1D], 1) := by decide

/-- Vector G40. -/
theorem test_mp :
    after (prog [0xFC, 0x31, 0xC0, 0x00, 0xC0, 0x10] |>.bytesAt 0x002000 [0x00, 0x00, 0x00, 0x0D]
        |>.bytesAt 0x002010 [0x01, 0x2D])
      (fun t => (t.mem.bytes 0x002000 4, t.cc)) = some (some [0x00, 0x00, 0x00, 0x0C], 0) := by decide

/-- Vector G64. -/
theorem test_dp :
    after (prog [0xFD, 0x30, 0xC0, 0x00, 0xC0, 0x10] |>.bytesAt 0x002000 [0x00, 0x00, 0x10, 0x0C]
        |>.bytesAt 0x002010 [0x3C])
      (fun t => (t.mem.bytes 0x002000 4, t.cc)) = some (some [0x00, 0x03, 0x3C, 0x1C], 0) := by decide

/-- Vector A18: with privilege ISK completes; its last four result bits are any value. -/
theorem test_isk :
    after (((prog [0x09, 0x12] |>.setGpr 1 0x12345678 |>.setGpr 2 0x2000 |>.setKey 4 0xA)).authorized)
      (fun t => (t.gpr 2, t.run, t.pc)) = some (0x2000, .running, 0x1002) := by decide

/-- Vector A21. -/
theorem test_svc :
    after (prog [0x0A, 0xFF] |>.setCC 3) (fun t => (t.run, t.ifr, t.pc, t.cc)) =
      some (.ended .supervisorCall (.svc 255), 0x00100000, 0x1002, 3) := by decide

/-- Vector F23. -/
theorem test_trt :
    after (prog [0xDD, 0x03, 0xC0, 0x00, 0xC1, 0x00] |>.setGpr 1 0xAAAAAAAA |>.setGpr 2 0xBBBBBBBB
        |>.bytesAt 0x2000 [0xC1, 0xC2, 0x6B, 0xC4] |>.bytesAt 0x21C1 [0, 0] |>.bytesAt 0x216B [0x04])
      (fun t => (t.gpr 1, t.gpr 2, t.cc)) = some (0xAA002002, 0xBBBBBB04, 1) := by decide

/-- Vector E73. -/
theorem test_privileged_operation :
    after (prog [0x80, 0x00, 0x00, 0x00]) (fun t => (t.run, t.pc)) =
      some (.ended .privilegedOperation .none, 0x1004) := by decide

/-- Vector A80. -/
theorem test_op_code_trap :
    after (prog [0x0B, 0x12]) (fun t => (t.run, t.pc)) = some (.ended .opCodeTrap .none, 0x1002) := by decide

/-- Vector H1. -/
theorem test_odd_instruction_address :
    after { prog [] with pc := 0x1001 } (fun t => (t.run, t.pc)) =
      some (.ended .addressError (.address .specification), 0x1001) := by decide

/-- Vector B9. -/
theorem test_float_register_number :
    after (prog [0x28, 0x01]) (fun t => (t.run, t.pc)) =
      some (.ended .addressError (.address .specification), 0x1002) := by decide

/-- Vector F5: a field with two bytes outside storage is terminated. -/
theorem test_terminated_move :
    after (prog [0xD2, 0x03, 0x30, 0x00, 0xC0, 0x00] |>.setGpr 3 0xFFFE) (fun t => (t.run, t.pc)) =
      some (.ended .addressError (.address .addressing), 0x1006) := by decide

/-- Codes to which no instruction is assigned, and strings too short (R92, R93, R95). -/
theorem test_decode_unassigned :
    decode [0x00, 0x00] = .unassigned 0x00 ∧ decode [0x4D, 0, 0, 0] = .unassigned 0x4D ∧
    decode [0x81, 0, 0, 0] = .unassigned 0x81 ∧ decode [0xE8, 0, 0, 0, 0, 0] = .unassigned 0xE8 ∧
    decode [0x58, 0, 0] = .truncated ∧ decode [] = .truncated := by decide

/-- Table words of 2, 4 and 6 bytes, and one placed where the next step fetches it. -/
theorem test_table_words :
    decodeTableWord 16 0x1A12 = some (.ar 1 2) ∧ decodeTableWord 32 0x58123008 = some (.l 1 2 3 8) ∧
    decodeTableWord 48 0xD204C040C050 = some (.mvc 4 12 0x040 12 0x050) ∧ decodeTableWord 16 0x0000 = none ∧
    after ((State.reset.setGpr 2 7).withFetchWord 16 0x1A12) (fun t => (t.gpr 1, t.pc)) = some (7, 2) := by decide

/-- R461, R464 (2) and the conventions of the vectors (95): a byte that the launch did not give, read by an instruction and
by the fetch, is refused. -/
theorem test_no_value :
    step (prog [0x95, 0x5C, 0xC0, 0x00]) = .refused .noValue ∧ step (prog [0x58]) = .refused .noValue := ⟨rfl, rfl⟩

/-- R428 (7) before (8): an invalid source digit at a protected pattern byte. -/
theorem test_edit_protected_digit :
    after ({ (prog [0xDE, 0x01, 0xC0, 0x00, 0xC1, 0x00]).bytesAt 0x2000 [0x40, 0x20] |>.bytesAt 0x2100 [0xAC] with
        cfg := { Config.default with protection := true, pkey := 5 } }) (fun t => t.run) =
      some (.ended .addressError (.address .protect)) := by decide

/-! ### States that meet the hypotheses of the statements -/

/-- The result is a next state of which `p` holds. -/
def meets (r : Result) (p : State → Bool) : Bool :=
  match r with
  | .next t => p t
  | _ => false

/-- `pc` at 1000, `ilc` 2, `x[1]` = 8, `x[2]` = -3, `x[3]` the last double word of storage, `x[12]` = 2000. -/
def base : State :=
  { (((prog []).setGpr 1 8).setGpr 2 0xFFFFFFFD |>.setGpr 3 0xFFF8) with ilc := 2 }

/-- Fixed-point overflow, decimal overflow, exponent underflow and significance allowed. -/
def masked : State := base.setPm 15

/-- Storage protection on with running key 5; block 4 (2000 to 27FF) has key 5, all others 0. -/
def guarded : State := { base.setKey 4 5 with cfg := { Config.default with protection := true, pkey := 5 } }

/-- The words 7FFFFFFF and 80000000 at 2000, and FFFF in the last half word of storage. -/
def words : State :=
  (masked.bytesAt 0x2000 [0x7F, 0xFF, 0xFF, 0xFF, 0x80, 0x00, 0x00, 0x00]).bytesAt 0xFFFE [0xFF, 0xFF]

/-- The bytes 00 to 07 in the last double word of storage and FF, 00, 00 at 2000. -/
def filled : State := (base.bytesAt 0xFFF8 [0, 1, 2, 3, 4, 5, 6, 7]).bytesAt 0x2000 [0xFF, 0x00, 0x00]

theorem witness_step_runs_decoded :
    (prog [0x1A, 0x12]).run = .running ∧ decode [0x1A, 0x12] = .instr (.ar 1 2) ∧
    meets (exec (.ar 1 2) { prog [0x1A, 0x12] with ilc := 1 }) (fun t => t.run == .running && t.ifr == 0) = true ∧
    meets (exec (.ar 1 2) { prog [0x1A, 0x12] with ilc := 1, ifr := 1 }) (fun t => t.run == .running) = true ∧
    meets (exec (.svc 7) { prog [0x0A, 0x07] with ilc := 1 }) (fun t => t.run != .running) = true := by decide

theorem witness_step_runs_decoded_fetch :
    (prog [0x1A, 0x12]).fetchBytes (prog [0x1A, 0x12]).pc = .ok [0x1A, 0x12] ∧
    exec (.idl 0) { (prog [0x80, 0, 0, 0]).authorized with ilc := 2 } = .refused (.noSemanticsInSource "IDL") ∧
    { base with run := .ended .opCodeTrap .none }.run = .ended .opCodeTrap .none := ⟨rfl, rfl, rfl⟩

/-- Two, four and six bytes that end with the last byte of storage; an odd address; one byte too few; no byte; a first
byte and a later byte without value. -/
theorem witness_instruction_fetch :
    ((base.bytesAt 0xFFFE [0x1A, 0]).byteAt 0xFFFE = some 0x1A ∧ (base.bytesAt 0xFFFE [0x1A, 0]).field 0xFFFE 2 ∧
      (base.bytesAt 0xFFFE [0x1A, 0]).given 0xFFFE 2) ∧
    ((base.bytesAt 0xFFFC [0x58, 0, 0, 0]).byteAt 0xFFFC = some 0x58 ∧
      (base.bytesAt 0xFFFC [0x58, 0, 0, 0]).field 0xFFFC 4 ∧ (base.bytesAt 0xFFFC [0x58, 0, 0, 0]).given 0xFFFC 4) ∧
    ((base.bytesAt 0xFFFA [0xD2, 0, 0, 0, 0, 0]).byteAt 0xFFFA = some 0xD2 ∧
      (base.bytesAt 0xFFFA [0xD2, 0, 0, 0, 0, 0]).field 0xFFFA 6 ∧
      (base.bytesAt 0xFFFA [0xD2, 0, 0, 0, 0, 0]).given 0xFFFA 6) ∧
    ({ base with pc := 0x1001 }.idle ∧ { base with pc := 0x1001 }.pc.toNat % 2 = 1) ∧
    ({ base.bytesAt 0xFFFE [0x58] with pc := 0xFFFE }.idle ∧
      ¬{ base.bytesAt 0xFFFE [0x58] with pc := 0xFFFE }.field 0xFFFE 4) ∧
    ({ base with pc := 0x10000 }.idle ∧ ¬{ base with pc := 0x10000 }.field 0x10000 1) ∧
    (base.idle ∧ base.field base.pc 1 ∧ base.byteAt base.pc = none) ∧
    ((base.bytesAt 0x1000 [0x58, 0, 0]).idle ∧ (base.bytesAt 0x1000 [0x58, 0, 0]).field 0x1000 4 ∧
      ¬(base.bytesAt 0x1000 [0x58, 0, 0]).given 0x1000 4) := by
  simp only [State.field, State.given, State.idle]; and_intros <;> decide

theorem witness_unassigned_code :
    (prog [0x0B, 0x12]).idle ∧ (prog [0x0B, 0x12]).fetchBytes 0x1000 = .ok [0x0B, 0x12] ∧
    decode [0x0B, 0x12] = .unassigned 0x0B ∧
    (base.bytesAt 0x2000 [0, 0]).fetchBytes ((base.bytesAt 0x2000 [0, 0]).ea 0 0 12) = .ok [0x00, 0x00] ∧
    decode [0x00, 0x00] = .unassigned 0x00 := ⟨⟨rfl, rfl⟩, rfl, by decide, rfl, by decide⟩

theorem witness_pending_condition :
    { prog [0x18, 0x12] with ifr := 0x80000002 }.run = .running ∧
    { prog [0x18, 0x12] with ifr := 0x80000002 }.fetchBytes 0x1000 = .ok [0x18, 0x12] ∧
    decode [0x18, 0x12] = .instr (.lr 1 2) ∧
    meets (exec (.lr 1 2) { prog [0x18, 0x12] with ifr := 0x80000002, ilc := 1 })
      (fun t => t.run == .running && t.ifr != 0) = true := ⟨rfl, rfl, by decide, by decide⟩

/-- A storing step from a state that has the invariant and is idle (StepKeepsInvariant, ParametersConstant,
OutsideConditionsNeverRaised, EndedRunNamesItsFlag). -/
theorem witness_step :
    (prog [0x50, 0xC0, 0xC0, 0x00]).inv = true ∧ (prog [0x50, 0xC0, 0xC0, 0x00]).run = .running ∧
    (prog [0x50, 0xC0, 0xC0, 0x00]).ifr = 0 ∧
    meets (step (prog [0x50, 0xC0, 0xC0, 0x00])) (fun t => t.byteAt 0x2002 == some 0x20) = true := by decide

/-- MaskAndKeysKept, SequentialAdvance, ConditionCodeKept, StorageAndRegisterFilesKept: an instruction outside each
set, and one that ends in a condition. -/
theorem witness_frames :
    (meets (exec (.ar 1 2) base) (fun _ => true) = true ∧ mayWriteMask (.ar 1 2) = false ∧
      mayWriteKey (.ar 1 2) = false ∧ mayBranch (.ar 1 2) = false ∧ mayStore (.ar 1 2) = false ∧
      isFloating (.ar 1 2) = false) ∧
    (meets (exec (.dr 4 6) base) (fun t => t.run != .running) = true ∧ mayWriteCC (.dr 4 6) = false ∧
      mayBranch (.dr 4 6) = false) ∧
    meets (exec (.ldr 0 2) base) (fun _ => true) = true ∧ isFloating (.ldr 0 2) = true ∧
    meets (step (prog [0x08, 0x12])) (fun _ => true) = true ∧ (prog [0x08, 0x12]).cfg.privileged = false := by decide

/-- A store goes on in the unprotected block; address 2800, the first of the next block, is protected. -/
theorem witness_protected_blocks :
    meets (step (guarded.bytesAt 0x1000 [0x92, 0x11, 0xC7, 0xFF])) (fun t => t.run == .running) = true ∧
    ¬(guarded.bytesAt 0x1000 [0x92, 0x11, 0xC7, 0xFF]).unprotected 0x2800 := by
  simp only [State.unprotected]; and_intros <;> decide

theorem witness_register_loads :
    (base.gpr 2 ≠ 0x80000000#32) ∧
    ((base.setGpr 2 0x80000000).gpr 2 = 0x80000000#32 ∧ (base.setGpr 2 0x80000000).pm.getLsbD 3 = false) ∧
    ((masked.setGpr 2 0x80000000).gpr 2 = 0x80000000#32 ∧ (masked.setGpr 2 0x80000000).pm.getLsbD 3 = true ∧
      (masked.setGpr 2 0x80000000).ifr = 0) := by decide

/-- The word 7FFFFFFF at 2000 and the half word -1 at the end of storage, as operands that overflow and do not. -/
theorem witness_signed_sums :
    (BitVec.saddOverflow (base.gpr 1) (base.gpr 2) = false ∧ BitVec.ssubOverflow (base.gpr 1) (base.gpr 2) = false) ∧
    (words.wordOperand 0 0 12 0x7FFFFFFF ∧ BitVec.saddOverflow (words.gpr 1) 0x7FFFFFFF = true ∧
      words.pm.getLsbD 3 = true ∧ words.ifr = 0 ∧
      BitVec.saddOverflow ((words.setPm 0).gpr 1) 0x7FFFFFFF = true ∧ (words.setPm 0).pm.getLsbD 3 = false) ∧
    (words.wordOperand 4 0 12 0x80000000 ∧ BitVec.ssubOverflow (words.gpr 1) 0x80000000 = true ∧
      words.pm.getLsbD 3 = true ∧ words.ifr = 0 ∧
      BitVec.ssubOverflow ((words.setPm 0).gpr 1) 0x80000000 = true ∧ (words.setPm 0).pm.getLsbD 3 = false) ∧
    (words.halfOperand 6 0 3 0xFFFFFFFF ∧ BitVec.saddOverflow (words.gpr 1) 0xFFFFFFFF = false ∧
      BitVec.ssubOverflow (words.gpr 1) 0xFFFFFFFF = false) := by
  simp only [State.wordOperand, State.halfOperand, State.readable, State.field, State.given]; and_intros <;> decide

/-- LogicalSums, Comparisons, LogicalOperations, Multiplication, Division. -/
theorem witness_word_operands :
    words.wordOperand 0 0 12 0x7FFFFFFF ∧ words.halfOperand 6 0 3 0xFFFFFFFF ∧
    words.readable (words.eab 7 3) 1 ∧ (4 : RegNum).toNat % 2 = 0 ∧
    (words.wordOperand 4 0 12 0x80000000 ∧ (0x80000000 : Word) ≠ 0 ∧
      -2 ^ 31 ≤ (words.gpr 4 ++ words.gpr 5).toInt.tdiv (0x80000000 : Word).toInt ∧
      (words.gpr 4 ++ words.gpr 5).toInt.tdiv (0x80000000 : Word).toInt < 2 ^ 31) ∧
    (words.gpr 6 = 0 ∧ words.ifr = 0) ∧
    2 ^ 31 ≤ ((words.gpr 2 ++ words.gpr 3).toInt.tdiv (0xFFFFFFFF : Word).toInt) := by
  simp only [State.wordOperand, State.halfOperand, State.readable, State.field, State.given]; and_intros <;> decide

/-- The last block of storage, and the first block outside it. -/
theorem witness_storage_keys :
    base.authorized.cfg.privileged = true ∧ base.authorized.cfg.keyBit = 24 ∧
    (base.authorized.gpr 3).toNat % 2 ^ 24 / 2048 * 2048 < base.authorized.cfg.memSize ∧
    base.authorized.cfg.memSize ≤ ((base.authorized.setGpr 3 0x10000).gpr 3).toNat % 2 ^ 24 / 2048 * 2048 ∧
    base.authorized.ifr = 0 := by decide

theorem witness_privilege :
    (Instr.ssk 1 2).privileged = true ∧ base.cfg.privileged = false ∧ base.ifr = 0 ∧
    base.authorized.cfg.privileged = true := by decide

/-- Ill-formed terms the check refuses: an odd pair register, a bad floating-point register in either field, and the
lengths of MP and DP: L2 = 8, and L2 = L1 (RegisterRulesSuppress). -/
theorem witness_ill_formed :
    (Instr.mr 3 2).wellFormed = false ∧ (Instr.d 15 0 12 0).wellFormed = false ∧
    (Instr.slda 1 0 4).wellFormed = false ∧ (Instr.ldr 1 2).wellFormed = false ∧
    (Instr.ler 0 8).wellFormed = false ∧ (Instr.ae 7 0 12 0).wellFormed = false ∧
    (Instr.mp 9 8 1 0 2 0).wellFormed = false ∧ (Instr.dp 3 3 1 0 2 0).wellFormed = false ∧
    (Instr.dr 14 3).wellFormed = true ∧ (Instr.std 6 0 12 0).wellFormed = true ∧
    (Instr.mp 8 7 1 0 2 0).wellFormed = true ∧ base.ifr = 0 := by decide

/-- Misaligned; outside by one byte; protected in the last byte of storage; no value in the last byte of an operand that
is read, and in one both read and stored into. -/
theorem witness_operand_conditions :
    ((Instr.l 1 0 3 2).wellFormed = true ∧
      (base.storageOperand (.l 1 0 3 2)).map (fun w => (w.addr, w.width, w.reads, w.stores)) =
        some (0xFFFA, 4, true, false) ∧ (0xFFFA : Addr).toNat % 4 ≠ 0 ∧ base.ifr = 0) ∧
    ((base.storageOperand (.cli 0 3 8)).map (fun w => (w.addr, w.width, w.reads, w.stores)) =
        some (0x10000, 1, true, false) ∧ (0x10000 : Addr).toNat % 1 = 0 ∧ ¬base.field 0x10000 1) ∧
    ((guarded.storageOperand (.mvi 0 3 7)).map (fun w => (w.addr, w.width, w.reads, w.stores)) =
        some (0xFFFF, 1, false, true) ∧ guarded.field 0xFFFF 1 ∧ ¬guarded.openField 0xFFFF 1) ∧
    ((base.bytesAt 0x2000 [1, 2, 3]).field 0x2000 4 ∧ ¬(base.bytesAt 0x2000 [1, 2, 3]).given 0x2000 4) ∧
    ((base.storageOperand (.ni 0 12 0)).map (fun w => (w.addr, w.width, w.reads, w.stores)) =
        some (0x2000, 1, true, true) ∧ base.openField 0x2000 1 ∧ ¬base.given 0x2000 1) := by
  simp only [State.openField, State.field, State.given, State.unprotected]; and_intros <;> decide

/-- Operands that end with the last byte of storage. -/
theorem witness_storage_loads :
    filled.readable (filled.ea 7 0 3) 1 ∧ filled.readable (filled.ea 6 0 3) 2 ∧ filled.readable (filled.ea 4 0 3) 4 ∧
    filled.readable (filled.ea 0 0 3) 8 ∧ floatRegister 6 = true := by
  simp only [State.readable, State.field, State.given]; and_intros <;> decide

/-- StorageStores, ImmediateBytes, DecimalConversion: the last bytes of storage, and those of an unprotected block. -/
theorem witness_storage_stores :
    base.writable (base.ea 7 0 3) 1 ∧ base.writable (base.ea 6 0 3) 2 ∧ base.writable (base.ea 4 0 3) 4 ∧
    base.writable (base.ea 0 0 3) 8 ∧ guarded.writable (guarded.eab 0x7FF 12) 1 ∧
    guarded.writable (guarded.ea 0x7F8 0 12) 8 ∧ floatRegister 6 = true ∧
    (filled.writable 0xFFFF 1 ∧ filled.byteAt 0xFFFF = some 7) := by
  simp only [State.writable, State.openField, State.field, State.unprotected]; and_intros <;> decide

/-- Shift amounts 1 and 63 on operands that fit and that overflow. -/
theorem witness_shifts :
    (-2 ^ 31 ≤ (base.gpr 2).toInt * 2 ^ 1 ∧ (base.gpr 2).toInt * 2 ^ 1 < 2 ^ 31) ∧
    ¬(-2 ^ 31 ≤ (base.gpr 1).toInt * 2 ^ 63 ∧ (base.gpr 1).toInt * 2 ^ 63 < 2 ^ 31) ∧
    base.pm.getLsbD 3 = false ∧ masked.pm.getLsbD 3 = true ∧ masked.ifr = 0 ∧ (2 : RegNum).toNat % 2 = 0 ∧
    (-2 ^ 63 ≤ (base.gpr 2 ++ base.gpr 3).toInt * 2 ^ 1 ∧ (base.gpr 2 ++ base.gpr 3).toInt * 2 ^ 1 < 2 ^ 63) ∧
    ¬(-2 ^ 63 ≤ (base.gpr 2 ++ base.gpr 3).toInt * 2 ^ 63 ∧
      (base.gpr 2 ++ base.gpr 3).toInt * 2 ^ 63 < 2 ^ 63) := by decide

/-- Two registers in the last double word of storage, which has a value and which has not; a misaligned address; one word
too many; a protected field. -/
theorem witness_multiple_registers :
    ((filled.eab 0 3).toNat % 4 = 0 ∧ ((0 : RegNum) - 15).toNat + 1 = 2 ∧ filled.field (filled.eab 0 3) (4 * 2) ∧
      filled.given (filled.eab 0 3) (4 * 2) ∧ filled.openField (filled.eab 0 3) (4 * 2)) ∧
    (base.field (base.eab 0 3) (4 * 2) ∧ ¬base.given (base.eab 0 3) (4 * 2)) ∧
    ((base.eab 2 3).toNat % 4 ≠ 0 ∧ base.ifr = 0) ∧ ¬base.field (base.eab 0 3) (4 * 3) ∧
    (guarded.field (guarded.eab 0 3) (4 * 2) ∧ ¬guarded.openField (guarded.eab 0 3) (4 * 2) ∧ guarded.ifr = 0) := by
  simp only [State.field, State.openField, State.unprotected, State.given]; and_intros <;> decide

/-- A field that ends with the last byte of storage; a move that propagates the one byte with a value; fields without
value; one byte too long; a protected field. -/
theorem witness_field_operations :
    (filled.openField 0xFFF8 8 ∧ filled.field 0xFFF8 8 ∧ filled.given 0xFFF8 8 ∧
      ∀ j < 8, filled.givenRightward 0xFFF8 j (0xFFF8 + BitVec.ofNat 24 j)) ∧
    (¬filled.given 0x2003 3 ∧ ∀ j < 3, filled.givenRightward 0x2003 j (0x2002 + BitVec.ofNat 24 j)) ∧
    (base.openField 0x2000 2 ∧ base.field 0xFFF8 2 ∧ ¬base.given 0x2000 2 ∧
      ¬∀ j < 2, base.givenRightward 0x2000 j (0xFFF8 + BitVec.ofNat 24 j)) ∧
    ¬(base.field (base.eab 0 3) 9 ∧ base.field (base.eab 4 12) 9) ∧ base.ifr = 0 ∧
    (guarded.field (guarded.eab 0 3) 8 ∧ guarded.field (guarded.eab 4 12) 8 ∧
      ¬guarded.openField (guarded.eab 0 3) 8) := by
  simp only [State.field, State.openField, State.unprotected, State.given, State.givenRightward]; and_intros <;> decide

theorem witness_field_form :
    (base.fieldForm (.xc 7 3 0 12 4)).map (fun w => (w.n, w.a1, w.a2, w.readsFirst, w.setsCC)) =
      some (8, 0xFFF8, 0x2004, true, true) ∧
    (base.fieldForm (.mvc 2 12 3 12 2)).map (fun w => (w.n, w.a1, w.a2, w.readsFirst, w.setsCC)) =
      some (3, 0x2003, 0x2002, false, false) := by decide

/-- Fields equal and unequal, with and without value, and outside storage; for TRT, function bytes that are zero, then one
that is not (the last), one outside storage, an argument outside storage, and bytes without value. -/
theorem witness_field_tests :
    (filled.field 0xFFF8 2 ∧ filled.given 0xFFF8 2 ∧
      ∀ j < 2, filled.byteVal (0xFFF8 + BitVec.ofNat 24 j) = filled.byteVal (0xFFF8 + BitVec.ofNat 24 j)) ∧
    (filled.byteVal 0x2001 = filled.byteVal 0xFFF8 ∧ filled.byteVal 0x2002 ≠ filled.byteVal 0xFFF9) ∧
    ¬(filled.field 0xFFF8 9 ∧ filled.field 0x2000 9) ∧ ¬(filled.given 0x2000 4 ∧ filled.given 0xFFF8 4) ∧
    (filled.field 0x2001 2 ∧ filled.given 0x2001 2 ∧ ∀ j < 2, (0x2001 + BitVec.ofNat 24
      (filled.byteVal (0x2001 + BitVec.ofNat 24 j)).toNat : Addr).toNat < filled.cfg.memSize ∧
      filled.byteAt (0x2001 + BitVec.ofNat 24 (filled.byteVal (0x2001 + BitVec.ofNat 24 j)).toNat) = some 0) ∧
    (filled.field 0xFFF8 8 ∧ filled.given 0xFFF8 8 ∧
      filled.byteAt (0xFFF8 + BitVec.ofNat 24 (filled.byteVal 0xFFF9).toNat) = some 1) ∧
    (filled.given 0x2000 1 ∧ filled.cfg.memSize ≤ (0xFFF8 + BitVec.ofNat 24 (filled.byteVal 0x2000).toNat : Addr).toNat) ∧
    (¬filled.field 0x10000 1 ∧ ¬filled.given 0x2003 1 ∧ filled.field 0x2003 1 ∧
      filled.byteAt (0x3000 + BitVec.ofNat 24 (filled.byteVal 0x2000).toNat) = none) := by
  simp only [State.field, State.given]; and_intros <;> decide

/-- Arguments 00 and 01 translated by the table at FFF8; a table byte outside storage; a protected field; an argument and a
table byte without value; a table byte that the translation itself has stored. -/
theorem witness_translation :
    (filled.openField 0xFFF8 2 ∧ filled.given 0xFFF8 2 ∧
      ∀ j < 2, (0xFFFE + BitVec.ofNat 24 (filled.byteVal (0xFFF8 + BitVec.ofNat 24 j)).toNat : Addr).toNat
        < filled.cfg.memSize ∧ filled.givenRightward 0xFFF8 j
          (0xFFFE + BitVec.ofNat 24 (filled.byteVal (0xFFF8 + BitVec.ofNat 24 j)).toNat)) ∧
    (filled.given 0xFFFA 1 ∧
      filled.cfg.memSize ≤ (0xFFFE + BitVec.ofNat 24 (filled.byteVal 0xFFFA).toNat : Addr).toNat) ∧
    ¬filled.field 0xFFF8 9 ∧
    ((guarded.bytesAt 0xFFF8 [0]).field 0xFFF8 1 ∧ ¬(guarded.bytesAt 0xFFF8 [0]).openField 0xFFF8 1 ∧
      (guarded.bytesAt 0xFFF8 [0]).given 0xFFF8 1) ∧
    (¬filled.given 0x2003 1 ∧ filled.openField 0x2000 3 ∧ ¬filled.givenRightward 0x2000 0 0x20FF) ∧
    filled.givenRightward 0x2000 1 0x2000 := by
  simp only [State.openField, State.field, State.unprotected, State.given, State.givenRightward]; and_intros <;> decide

/-- Patterns 40 20 20 at 2000, 40 21 20 at 2100, 40 20 4B at 2200, 40 20 22 20 at 2300; source bytes 05, 5C, 5D, 1C, AC,
12 at 2400 to 2405. -/
def pattern : State :=
  base.bytesAt 0x2000 [0x40, 0x20, 0x20] |>.bytesAt 0x2100 [0x40, 0x21, 0x20] |>.bytesAt 0x2200 [0x40, 0x20, 0x4B]
    |>.bytesAt 0x2300 [0x40, 0x20, 0x22, 0x20] |>.bytesAt 0x2400 [0x05, 0x5C, 0x5D, 0x1C, 0xAC, 0x12]

/-- How an edit ends: none if it goes through. -/
def editEnd (r : Except Stop Edit) : Option Stop :=
  match r with
  | .ok _ => none
  | .error c => some c

/-- Editing: an edit that goes through, a pattern with no digit byte, and the bytes of each single pattern, the source
bytes 05 (two digits), 5C and 5D (plus and minus), and the last distances at which source and pattern do not overlap. -/
theorem witness_editing :
    editEnd (pattern.edit 3 0x2000 0x2400) = none ∧
    (pattern.openField 0x2400 6 ∧ pattern.given 0x2400 6 ∧ pattern.digitBytes 0x2400 6 = 0) ∧
    (pattern.openField 0x2000 3 ∧ pattern.byteAt 0x2000 = some 0x40 ∧ pattern.byteAt 0x2001 = some 0x20 ∧
      pattern.byteAt 0x2002 = some 0x20 ∧ pattern.byteAt 0x2400 = some (BitVec.ofNat 8 (16 * 0 + 5))) ∧
    (pattern.openField 0x2100 3 ∧ pattern.byteAt 0x2101 = some 0x21 ∧ pattern.byteAt 0x2102 = some 0x20) ∧
    (pattern.openField 0x2200 3 ∧ pattern.byteAt 0x2202 = some 0x4B ∧
      pattern.byteAt 0x2401 = some (BitVec.ofNat 8 (16 * 5 + 12)) ∧
      pattern.byteAt 0x2402 = some (BitVec.ofNat 8 (16 * 5 + 13))) ∧
    (pattern.openField 0x2300 4 ∧ pattern.byteAt 0x2302 = some 0x22 ∧ pattern.byteAt 0x2303 = some 0x20 ∧
      pattern.field 0x2402 2 ∧ pattern.byteAt 0x2403 = some (BitVec.ofNat 8 (16 * 1 + 12))) ∧
    3 ≤ (0x2003 - 0x2000 : Addr).toNat ∧ 4 ≤ (0x2304 + 1 - 0x2300 : Addr).toNat ∧
    pattern.byteAt 0x2500 = none := by
  simp only [State.openField, State.field, State.unprotected, State.given]; and_intros <;> decide

/-- EditTerminations: each stop; at the pattern byte k = 1 with q = 0 an invalid source byte and one outside storage, at
k = 3 with q = 1 an invalid second source byte; a protected pattern without and with a digit byte. -/
theorem witness_edit_terminations :
    editEnd (pattern.edit 3 0x2000 0x2404) = some .data ∧
    editEnd (pattern.edit 9 0xFFF8 0x2400) = some (.address .addressing) ∧
    editEnd (guarded.edit 8 0xFFF8 0x2400) = some (.address .protect) ∧
    editEnd (pattern.edit 3 0x2000 0x2500) = some .noValue ∧ pattern.ifr = 0 ∧ ¬pattern.field 0xFFF8 9 ∧
    ((guarded.bytesAt 0xFFF8 [0x40]).field 0xFFF8 1 ∧ ¬(guarded.bytesAt 0xFFF8 [0x40]).openField 0xFFF8 1 ∧
      (guarded.bytesAt 0xFFF8 [0x40]).given 0xFFF8 1 ∧ (guarded.bytesAt 0xFFF8 [0x40]).digitBytes 0xFFF8 1 = 0) ∧
    (pattern.given 0x2000 2 ∧ pattern.digitBytes 0x2000 1 = 2 * 0 ∧ pattern.digitBytes 0x2000 2 = 2 * 0 + 1 ∧
      pattern.cfg.memSize ≤ (0x10000 + BitVec.ofNat 24 0 : Addr).toNat ∧
      (0x2404 + BitVec.ofNat 24 0 : Addr).toNat < pattern.cfg.memSize ∧
      3 ≤ (0x2404 + BitVec.ofNat 24 0 - 0x2000 : Addr).toNat ∧ 9 < pattern.halfByte 0x2404 (2 * 0)) ∧
    ((pattern.bytesAt 0x2000 [0x40, 0x20, 0x20, 0x20]).digitBytes 0x2000 3 = 2 * 1 ∧
      (pattern.bytesAt 0x2000 [0x40, 0x20, 0x20, 0x20]).digitBytes 0x2000 4 = 2 * 1 + 1 ∧
      (pattern.bytesAt 0x2403 [0x15]).halfByte 0x2403 (2 * 0 + 1) ≤ 9 ∧
      9 < (pattern.bytesAt 0x2403 [0x15]).halfByte 0x2403 (2 * 1)) ∧
    ¬guarded.unprotected (0x2800 + BitVec.ofNat 24 1) := by
  simp only [State.openField, State.field, State.unprotected, State.given]; and_intros <;> decide

/-- -2147483648 and 2147483648 in packed form in the last double words of storage, and no digits at 2000. -/
def conversion : State :=
  (base.bytesAt 0xFFF8 [0, 0, 0x02, 0x14, 0x74, 0x83, 0x64, 0x8D]).bytesAt 0xFFF0 [0, 0, 0x02, 0x14, 0x74, 0x83, 0x64, 0x8C]

theorem witness_conversion :
    conversion.readable (conversion.ea 0 0 3) 8 ∧
    conversion.decAt (conversion.ea 0 0 3) 8 = .ok { mag := 2147483648, neg := true } ∧
    conversion.decAt 0xFFF0 8 = .ok { mag := 2147483648, neg := false } ∧
    (conversion.bytesAt 0xFFF0 [0xA0]).decAt 0xFFF0 8 = .error .data ∧ conversion.ifr = 0 :=
  ⟨by simp only [State.readable, State.field, State.given]; decide, rfl, rfl, rfl, rfl⟩

/-- Digits that are all valid, one that is not, and the least sign code. -/
theorem witness_packed_value :
    (1 ≤ 2 ∧ [1, 2, 9].length = 2 * 2 - 1 ∧ (∀ d ∈ [1, 2, 9], d < 16 ∧ d ≤ 9) ∧ 10 ≤ 10 ∧ 10 < 16) ∧
    ([1, 10, 3].length = 2 * 2 - 1 ∧ ¬∀ d ∈ [1, 10, 3], d ≤ 9) ∧
    (conversion.given 0xFFF8 8 ∧ ¬conversion.invalidPacked 0xFFF8 8) ∧
    (pattern.given 0x2400 6 ∧ pattern.invalidPacked 0x2400 6) := by
  simp only [State.given, State.invalidPacked]; and_intros <;> decide

/-- 999+ at 2000, 00000+ at 2008, 1+ at 2010, 5- at 2011, an invalid sign at 2012 (DecimalMoves, DecimalArithmetic,
DecimalProducts). -/
def decimals : State :=
  (base.bytesAt 0x2000 [0x99, 0x9C]).bytesAt 0x2008 [0x00, 0x00, 0x0C] |>.bytesAt 0x2010 [0x1C, 0x5D, 0x19]

/-- A source of which only the needed bytes lie in storage and have a value; MVO onto a source byte that an earlier step has
stored; no value; outside storage; protected. -/
theorem witness_decimal_moves :
    (decimals.moveForm (.mvo 1 1 12 0 12 8)).map (fun w => (w.l1, w.l2, w.a1, w.a2, w.readsFirst, w.needs 1)) =
      some (1, 1, 0x2000, 0x2008, true, [1]) ∧
    (decimals.moveForm (.pack 1 2 12 0 12 8)).map (fun w => (w.l1, w.l2, w.a1, w.a2, w.readsFirst, w.needs 1)) =
      some (1, 2, 0x2000, 0x2008, false, [2, 1]) ∧
    (decimals.moveForm (.unpk 3 1 12 0 12 8)).map (fun w => (w.l1, w.l2, w.a1, w.a2, w.readsFirst, w.needs 2)) =
      some (3, 1, 0x2000, 0x2008, false, [1]) ∧
    (decimals.field 0x2000 2 ∧ decimals.openField 0x2000 2 ∧ decimals.byteAt 0x2001 ≠ none ∧
      ∀ k ≤ 1, (0x2001 - BitVec.ofNat 24 k : Addr).toNat < decimals.cfg.memSize ∧
        decimals.givenLeftward 0x2001 k (0x2001 - BitVec.ofNat 24 k)) ∧
    (¬decimals.givenLeftward 0x2001 0 0x2002 ∧ decimals.givenLeftward 0x2003 1 0x2003) ∧ ¬decimals.field 0xFFF8 9 ∧
    (guarded.field 0xFFF8 8 ∧ ¬guarded.openField 0xFFF8 8) ∧ decimals.ifr = 0 := by
  simp only [State.openField, State.field, State.unprotected, State.givenLeftward]; and_intros <;> first | decide | rfl

/-- An operand read in a state. -/
def decOf (r : Except Stop Dec) : Option Dec :=
  match r with
  | .ok d => some d
  | .error _ => none

/-- Sums that overflow and do not; ZAP with its rightmost byte at, and left of, the second operand's inside it; an invalid
second operand; outside storage; protected; no value. -/
theorem witness_decimal_arithmetic :
    (decimals.decimalForm (.ap 1 0 12 0 12 0x10)).map (fun w => (w.n1, w.n2, w.a1, w.a2, w.readsFirst, w.stores)) =
      some (2, 1, 0x2000, 0x2010, true, true) ∧
    (decimals.decimalForm (.zap 0 1 12 0 12 0)).map (fun w => (w.n1, w.n2, w.a1, w.a2, w.readsFirst, w.stores)) =
      some (1, 2, 0x2000, 0x2000, false, true) ∧
    (decimals.decimalForm (.cp 1 0 12 0 12 0x10)).map (fun w => (w.readsFirst, w.stores)) = some (true, false) ∧
    (decimals.openField 0x2000 2 ∧ decimals.field 0x2010 1 ∧ decimals.given 0x2000 2 ∧ decimals.given 0x2010 3) ∧
    decOf (decimals.decAt 0x2000 2) = some { mag := 999, neg := false } ∧
    decOf (decimals.decAt 0x2010 1) = some { mag := 1, neg := false } ∧
    decOf (decimals.decAt 0x2011 1) = some { mag := 5, neg := true } ∧
    2 ≤ (0x2000 + BitVec.ofNat 24 (2 - 1) - 0x2000 : Addr).toNat + 1 ∧
    (0x2008 + BitVec.ofNat 24 (1 - 1) - 0x2008 : Addr).toNat + 1 < 3 ∧ (0 : Int).natAbs < 10 ^ (2 * 1 - 1) ∧
    10 ^ (2 * 2 - 1) ≤ (999 + 1 : Int).natAbs ∧ (999 + -5 : Int).natAbs < 10 ^ (2 * 2 - 1) ∧
    decimals.pm.getLsbD 2 = false ∧ (decimals.setPm 15).pm.getLsbD 2 = true ∧ decimals.ifr = 0 ∧
    (decimals.field 0x2012 1 ∧ decimals.invalidPacked 0x2012 1 ∧ ¬decimals.invalidPacked 0x2000 2) ∧
    ¬(decimals.field 0xFFF8 9 ∧ decimals.field 0x2000 2) ∧ (guarded.field 0xFFF8 8 ∧ ¬guarded.openField 0xFFF8 8) ∧
    ¬decimals.given 0x2001 2 := by
  simp only [State.openField, State.field, State.unprotected, State.given, State.invalidPacked]; and_intros <;> decide

/-- A product and a quotient in range, a multiplicand with too few leading zero bytes, a quotient too long; the lengths
L2 = 7 and L2 = L1 - 1; an invalid operand; outside storage; protected; no value. -/
theorem witness_decimal_products :
    decimals.openField 0x2008 3 ∧ decimals.field 0x2011 1 ∧
    decOf (decimals.decAt 0x2008 3) = some { mag := 0, neg := false } ∧
    decOf (decimals.decAt 0x2011 1) = some { mag := 5, neg := true } ∧
    (∀ j < 1, decimals.byteVal (0x2008 + BitVec.ofNat 24 j) = 0) ∧
    (decimals.openField 0x2000 2 ∧ ¬∀ j < 1, decimals.byteVal (0x2000 + BitVec.ofNat 24 j) = 0) ∧
    0 / 5 < 10 ^ (2 * (3 - 1) - 1) ∧ 10 ^ (2 * (2 - 1) - 1) ≤ 999 / 5 ∧ decimals.ifr = 0 ∧
    ((7 : RegNum).toNat ≤ 7 ∧ (7 : RegNum).toNat < (8 : RegNum).toNat ∧ (0 : RegNum).toNat < (1 : RegNum).toNat) ∧
    (decimals.given 0x2008 3 ∧ decimals.given 0x2012 1 ∧ decimals.field 0x2012 1 ∧ decimals.invalidPacked 0x2012 1) ∧
    ¬(decimals.field 0xFFF8 9 ∧ decimals.field 0x2011 1) ∧ (guarded.field 0xFFF8 8 ∧ ¬guarded.openField 0xFFF8 8) ∧
    (¬decimals.given 0x2001 2 ∧ ¬decimals.invalidPacked 0x2008 3 ∧ ¬decimals.given 0x2013 1) := by
  simp only [State.openField, State.field, State.unprotected, State.given, State.invalidPacked]; and_intros <;> decide

/-- `f[0]` = 1.0, `f[2]` = -1.0, `f[4]` the least number not zero, `f[6]` the greatest. -/
def floats : State :=
  base.setFpr 0 0x4110000000000000 |>.setFpr 2 0xC110000000000000 |>.setFpr 4 0x0010000000000000
    |>.setFpr 6 0x7FFFFFFFFFFFFFFF

/-- The form of an instruction as plain data. -/
def formOf (w : Option FloatForm) : Option (RegNum × Nat × Nat × Nat × Bool × Bool) :=
  w.map fun w => (w.r1, w.n, w.a, w.b, w.normalize, w.negate)

theorem witness_float_forms :
    formOf (floats.floatAddForm (.adr 0 2)) = some (0, 14, 0x4110000000000000, 0xC110000000000000, true, false) ∧
    formOf (floats.floatAddForm (.aur 6 6)) = some (6, 6, 0x7FFFFFFF, 0x7FFFFFFF, false, false) ∧
    formOf (floats.floatCompareForm (.cdr 0 2)) = some (0, 14, 0x4110000000000000, 0xC110000000000000, true, true) ∧
    formOf (floats.floatMultiplyForm (.mer 4 4)) = some (4, 6, 0x00100000, 0x00100000, true, false) ∧
    formOf (floats.floatDivideForm (.ddr 0 2)) = some (0, 14, 0x4110000000000000, 0xC110000000000000, true, false) ∧
    (Instr.adr 0 2).wellFormed = true ∧ (floats.storageOperand (.adr 0 2)).isNone = true :=
  ⟨rfl, rfl, rfl, rfl, rfl, rfl, rfl⟩

/-- An RX operand in the last double word of storage. -/
theorem witness_float_storage : (floats.bytesAt 0xFFF8 [0x41, 0x10, 0, 0, 0, 0, 0, 0]).operandsReady (.ad 0 0 3 0) :=
  ⟨by decide, fun _ h => by
    simp only [State.storageOperand, Option.some.injEq] at h
    subst h
    simp only [State.readable, State.field, State.given]; and_intros <;> decide⟩

/-- FloatingAddition and FloatingCompareAndSum, the cases in order: a carry past characteristic 127; lost significance; a
normal sum; underflow with five digits to shift at characteristic 0; a guard digit alone, the second fraction shifted by
one digit; a fraction shifted by seven digits, of which one reaches the guard digit, and by eight, which is lost. -/
theorem witness_floating_addition :
    (16 ^ (14 + 1) ≤ (shiftedFraction 14 1 127 false 0x7FFFFFFFFFFFFFFF +
      shiftedFraction 14 1 127 false 0x7FFFFFFFFFFFFFFF).natAbs ∧ 127 < 127 + 1) ∧
    shiftedFraction 14 1 65 false 0x4110000000000000 + shiftedFraction 14 1 65 false 0xC110000000000000 = 0 ∧
    ((shiftedFraction 14 1 65 false 0x4110000000000000 + shiftedFraction 14 1 65 false 0x4110000000000000).natAbs =
        0x200000000000000 ∧
      16 ^ (14 + 1 - 1) ≤ 0x200000000000000 * 16 ^ 0 ∧ 0x200000000000000 * 16 ^ 0 < 16 ^ (14 + 1)) ∧
    ((shiftedFraction 6 1 0 false 0x00100000 + shiftedFraction 6 1 0 true 0x000FFFFF).natAbs = 16 ∧
      16 ^ (6 + 1 - 1) ≤ 16 * 16 ^ 5 ∧ 16 * 16 ^ 5 < 16 ^ (6 + 1) ∧ 0 < 5) ∧
    ((shiftedFraction 6 1 66 false 0x42000001 + shiftedFraction 6 1 66 true 0x4100000F).natAbs = 1 ∧
      1 * 16 ^ 0 / 16 ^ 1 = 0) ∧
    shiftedFraction 6 1 71 false 0x41100000 = 1 ∧ shiftedFraction 6 1 72 false 0x41100000 = 0 := by decide

/-- FloatingMultiplication: zero, a product in range, underflow, overflow. -/
theorem witness_floating_multiplication :
    (0x0 % 16 ^ 14 = 0) ∧
    (16 ^ 13 ≤ 0x10000000000000 * 16 ^ 0 ∧ 0x10000000000000 * 16 ^ 0 < 16 ^ 14 ∧
      0x10000000000000 * 0x10000000000000 < 16 ^ 27 ∧ (0 : Int) ≤ 65 + 65 - 65 ∧ (65 + 65 - 65 : Int) ≤ 127) ∧
    ((0 - 0 + (0 - 0) - 65 : Int) < 0) ∧ (127 : Int) < 127 - 0 + (127 - 0) - 64 ∧ floats.pm.getLsbD 1 = false ∧
    (floats.setPm 15).pm.getLsbD 1 = true ∧ floats.ifr = 0 := by decide

/-- FloatingDivision: a zero divisor, equal fractions in range, underflow, overflow. -/
theorem witness_floating_division :
    (16 ^ 13 ≤ 0x10000000000000 ∧ 0x10000000000000 * 16 ^ 13 / 0x10000000000000 = 16 ^ 13) ∧
    (0 : Int) ≤ 65 - 65 + 65 ∧ (65 - 65 + 65 : Int) ≤ 127 ∧ (0 - 127 + 65 : Int) < 0 ∧
    (127 : Int) < 127 - 0 + 65 ∧ 0x0 % 16 ^ 14 = 0 := by decide

/-- FloatingHalve: the halved fraction needs one digit of shift, at characteristic 1 and at characteristic 0. -/
theorem witness_floating_halve :
    (0x0110000000000000 / 16 ^ 14 % 128 = 1 ∧ 0x0110000000000000 % 16 ^ 14 / 2 = 0x8000000000000 ∧
      16 ^ 13 ≤ 0x8000000000000 * 16 ^ 1 ∧ 0x8000000000000 * 16 ^ 1 < 16 ^ 14) ∧
    ((floats.fpr 4).toNat / 16 ^ 14 % 128 = 0 ∧ (floats.fpr 4).toNat % 16 ^ 14 / 2 = 0x8000000000000) ∧
    floatRegister 4 = true ∧ floats.cfg.halveNormalizes = false ∧
    { floats with cfg := { floats.cfg with halveNormalizes := true } }.cfg.halveNormalizes = true := by decide

theorem witness_short_product :
    (fMulShort false 0x41100000 0x41200000).value = .set 0x4120000000000000 ∧
    (fMulShort false 0x41100000 0x41200000).raised = none ∧ 0x41100000 < 2 ^ 32 ∧ 0x41200000 < 2 ^ 32 ∧
    (fMulShort false 0x00100000 0x00100000).value = .set 0 := by decide

theorem witness_equal_characteristics :
    0x41100000 / 16 ^ 6 % 128 = 0xC1200000 / 16 ^ 6 % 128 := by decide

/-- A subject LR at 2000 and an EX at 2002. -/
def subjects : State := base.bytesAt 0x2000 [0x18, 0x12, 0x44, 0x00, 0x00, 0x00]

theorem witness_execute :
    subjects.fetchBytes (subjects.ea 0 0 12) = .ok [0x18, 0x12] ∧ (0x18 : Byte) ≠ 0x44 ∧
    decode [0x18, 0x12 ||| 0x08] = .instr (.lr 1 10) ∧
    subjects.fetchBytes (subjects.ea 2 0 12) = .ok [0x44, 0x00, 0x00, 0x00] ∧
    (subjects.ea 1 0 12).toNat % 2 = 1 ∧ subjects.fetchBytes (subjects.ea 8 0 3) = .error (.address .addressing) ∧
    subjects.fetchBytes (subjects.ea 6 0 12) = .error .noValue ∧ subjects.ifr = 0 :=
  ⟨rfl, by decide, by decide, rfl, by decide, rfl, rfl, rfl⟩

end Sys2Proof.Tests
end

section
/-! PROOFS. How an instruction ends, as rules over the model's shared operations (00_scope R11, R12). -/

namespace Sys2Proof.Machine

/-- Where the result is a next state, it is an ending (R12) of a state that satisfies `P`: `pc` advanced, and perhaps a
condition raised after that. A frame of an instruction is this for the `P` that says what is kept. -/
def Ends (P : State → Prop) (r : Result) : Prop :=
  ∀ t, r = .next t → ∃ u, P u ∧ (t = u.advance ∨ ∃ c info, t = u.advance.raise c info)

variable {P : State → Prop} {s : State} {k : Result}

/-! ## The endings -/

theorem Ends.refused (r : Refusal) : Ends P (.refused r) := by
  rintro t ⟨⟩

theorem Ends.complete (h : P s) : Ends P s.complete := by
  rintro t ⟨⟩
  exact ⟨s, h, .inl rfl⟩

theorem Ends.suppress {c : Condition} {info : Info} (h : P s) : Ends P (s.suppress c info) := by
  rintro t ⟨⟩
  exact ⟨s, h, .inr ⟨c, info, rfl⟩⟩

theorem Ends.completeWith {c : Option Condition} (h : P s) : Ends P (s.completeWith c) := by
  cases c with
  | none => exact .complete h
  | some _ => exact .suppress h

theorem Ends.addressFault {cause : AddressCause} (h : P s) : Ends P (s.addressFault cause) := .suppress h

theorem Ends.terminateBy {stop : Stop} (h : P s) : Ends P (terminateBy s stop) := by
  cases stop with
  | raised _ _ => exact .suppress h
  | noValue => exact .refused _

theorem Ends.accessTerminated {c : AddressCause} (h : P s) : Ends P (accessTerminated s c) := .terminateBy h

/-! ## The checks before an ending -/

theorem Ends.privileged (hs : P s) (hk : Ends P k) : Ends P (s.privileged k) := by
  unfold State.privileged
  split
  · exact hk
  · exact .suppress hs

theorem Ends.withEven {r : RegNum} (hs : P s) (hk : Ends P k) : Ends P (s.withEven r k) := by
  rcases s.withEven_cases r k with ⟨_, h⟩ | ⟨_, h⟩ <;> rw [h]
  · exact hk
  · exact .addressFault hs

theorem Ends.withFreg {r : RegNum} (hs : P s) (hk : Ends P k) : Ends P (s.withFreg r k) := by
  rcases s.withFreg_cases r k with ⟨_, h⟩ | ⟨_, h⟩ <;> rw [h]
  · exact hk
  · exact .addressFault hs

theorem Ends.withFregs {r1 r2 : RegNum} (hs : P s) (hk : Ends P k) : Ends P (s.withFregs r1 r2 k) :=
  .withFreg hs (.withFreg hs hk)

theorem Ends.withBlock {r : RegNum} {k : Nat → Result} (hs : P s) (hk : ∀ b, Ends P (k b)) :
    Ends P (s.withBlock r k) := by
  unfold State.withBlock
  split
  · exact .addressFault hs
  · exact hk _

theorem Ends.withLengths {l1 l2 : RegNum} (hs : P s) (hk : Ends P k) : Ends P (s.withLengths l1 l2 k) := by
  unfold State.withLengths
  split
  · exact .addressFault hs
  · exact hk

/-! ## Storage operands -/

theorem Ends.withValue {a : Addr} {n : Nat} {k : Nat → Result} (hk : ∀ v, Ends P (k v)) :
    Ends P (s.withValue a n k) := by
  rcases s.withValue_cases a n k with ⟨_, h⟩ | ⟨v, _, h⟩ <;> rw [h]
  · exact .refused _
  · exact hk v

theorem Ends.withRead {a : Addr} {n : Nat} {k : Nat → Result} (hs : P s) (hk : ∀ v, Ends P (k v)) :
    Ends P (s.withRead a n k) := by
  rcases s.withRead_cases a n k with ⟨_, _, h⟩ | ⟨_, _, h⟩ | ⟨_, v, _, h⟩ <;> rw [h]
  · exact .addressFault hs
  · exact .refused _
  · exact hk v

theorem Ends.withWrite {a : Addr} {n v : Nat} {k : State → Result} (hs : P s) (hk : ∀ m, Ends P (k (s.setMem m))) :
    Ends P (s.withWrite a n v k) := by
  rcases s.withWrite_cases a n v k with ⟨_, _, h⟩ | ⟨_, h⟩ <;> rw [h]
  · exact .addressFault hs
  · exact hk _

theorem Ends.withUpdate {a : Addr} {f : Byte → Byte} {k : Byte → State → Result} (hs : P s)
    (hk : ∀ v m, Ends P (k v (s.setMem m))) : Ends P (s.withUpdate a f k) := by
  rcases s.withUpdate_cases a f k with ⟨_, _, h⟩ | ⟨_, _, h⟩ | ⟨_, v, _, h⟩ <;> rw [h]
  · exact .addressFault hs
  · exact .refused _
  · exact hk v _

/-- A field instruction: `s` is here the state whose result fields hold any value. -/
theorem Ends.withStorage {r : Except Stop Memory} {k : Memory → Result} (hs : P s) (hk : ∀ m, Ends P (k m)) :
    Ends P (s.withStorage r k) := by
  rcases s.withStorage_cases r k with ⟨stop, _, h⟩ | ⟨m, _, h⟩ <;> rw [h]
  · exact .terminateBy hs
  · exact hk m

theorem Ends.withFields {a1 a2 : Addr} {n1 n2 : Nat} {freed : State} (hf : P freed) (hk : Ends P k) :
    Ends P (s.withFields a1 n1 a2 n2 freed k) := by
  unfold State.withFields
  split
  · exact .accessTerminated hf
  · exact hk

theorem Ends.withDecimal {a : Addr} {n : Nat} {freed : State} {k : Dec → Result} (hf : P freed)
    (hk : ∀ d, Ends P (k d)) : Ends P (s.withDecimal a n freed k) := by
  rcases s.withDecimal_cases a n freed k with ⟨stop, _, h⟩ | ⟨d, _, h⟩ <;> rw [h]
  · exact .terminateBy hf
  · exact hk d

theorem Ends.withFactors {l1 l2 : RegNum} {a1 a2 : Addr} {k : Dec → Dec → Result} (hs : P s)
    (hf : P (s.freeBytes a1 (decLength l1))) (hk : ∀ d e, Ends P (k d e)) : Ends P (s.withFactors l1 l2 a1 a2 k) :=
  .withLengths hs (.withFields hf (.withDecimal hf fun d => .withDecimal hf (hk d)))

/-! ## Results in registers -/

theorem Ends.finishDivide {r : RegNum} {v : Option (Word × Word)} (hs : P s)
    (hq : ∀ q rem, P ((s.setGpr r rem).setGpr (r + 1) q)) : Ends P (s.finishDivide r v) := by
  cases v with
  | none => exact .suppress hs
  | some v => exact .complete (hq v.1 v.2)

end Sys2Proof.Machine
end

section
/-! PROOFS. `next` under the updates of the state, and the advance of `pc` by an instruction that does not branch
(00_scope R11, 10_state R26). -/

namespace Sys2Proof.Machine

/-- `next` depends on `pc` and `ilc` alone. -/
theorem State.next_congr {s u : State} (hpc : u.pc = s.pc) (hilc : u.ilc = s.ilc) : u.next = s.next := by
  rw [State.next, hpc, hilc, State.next]

/-- The state has the `next` of `s`. -/
def State.sameNext (s u : State) : Prop := u.next = s.next

@[simp] theorem State.sameNext_iff {s u : State} : s.sameNext u ↔ u.next = s.next := .rfl

@[simp] theorem State.next_setFValue (s : State) (r : RegNum) (v : FValue) : (s.setFValue r v).next = s.next := by
  cases v <;> rfl

@[simp] theorem State.next_setFValueShort (s : State) (r : RegNum) (v : FValue) :
    (s.setFValueShort r v).next = s.next := by
  cases v <;> rfl

@[simp] theorem State.next_setFCode (s : State) (c : FCode) : (s.setFCode c).next = s.next := by
  cases c <;> rfl

@[simp] theorem State.next_freeBytes (s : State) (a : Addr) (n : Nat) : (s.freeBytes a n).next = s.next :=
  State.next_congr (s.freeBytes_pc a n) (s.freeBytes_ilc a n)

@[simp] theorem State.next_freeGprs (s : State) (r : RegNum) (k : Nat) : (s.freeGprs r k).next = s.next :=
  State.next_congr (s.freeGprs_pc r k) (s.freeGprs_ilc r k)

@[simp] theorem State.next_freeCC (s : State) : s.freeCC.next = s.next := rfl

theorem State.next_loadRegisters {s t : State} {k : Nat} {r : RegNum} {a : Addr} (h : s.loadRegisters k r a = some t) :
    t.next = s.next := by
  rw [State.loadRegisters_x_only h]; rfl

/-- An ending of a state with the `next` of `s` leaves `pc` there. -/
theorem Ends.pc_eq {s t : State} {r : Result} (h : Ends s.sameNext r) (ht : r = .next t) : t.pc = s.next := by
  obtain ⟨u, hu, rfl | ⟨c, info, rfl⟩⟩ := h t ht
  · exact hu
  · rw [State.raise_pc]; exact hu

/-! ## Instructions with an ending of their own -/

variable (s : State)

theorem finishArith_ends_sameNext (r : RegNum) (v : Arith 32) : Ends s.sameNext (s.finishArith r v) :=
  .completeWith rfl

theorem finishArithPair_ends_sameNext (r : RegNum) (v : Arith 64) : Ends s.sameNext (s.finishArithPair r v) :=
  .completeWith rfl

theorem finishLong_ends_sameNext (r : RegNum) (v : FResult) : Ends s.sameNext (s.finishLong r v) :=
  .completeWith (by simp)

theorem finishShort_ends_sameNext (r : RegNum) (v : FResult) : Ends s.sameNext (s.finishShort r v) :=
  .completeWith (by simp)

theorem execCvb_ends_sameNext (r1 x2 b2 : RegNum) (d2 : Disp) : Ends s.sameNext (execCvb r1 x2 b2 d2 s) := by
  refine .withRead rfl fun v => ?_
  cases decParse 8 v with
  | none => exact .suppress rfl
  | some d => exact .completeWith rfl

theorem execStm_ends_sameNext (r1 r3 b2 : RegNum) (d2 : Disp) : Ends s.sameNext (execStm r1 r3 b2 d2 s) := by
  unfold execStm
  split
  · exact .addressFault rfl
  · split
    · exact .accessTerminated (by simp)
    · exact .complete rfl

theorem execLm_ends_sameNext (r1 r3 b2 : RegNum) (d2 : Disp) : Ends s.sameNext (execLm r1 r3 b2 d2 s) := by
  unfold execLm
  split
  · exact .addressFault rfl
  · split
    · exact .accessTerminated (by simp)
    · split
      · exact .refused _
      · next hl => exact .complete (State.next_loadRegisters hl)

theorem moveFields_ends_sameNext (n : Nat) (a1 a2 : Addr) (f : Option Byte → Byte → Option Byte) :
    Ends s.sameNext (s.moveFields n a1 a2 f) :=
  .withStorage (by simp) fun _ => .complete rfl

theorem logicFields_ends_sameNext (n : Nat) (a1 a2 : Addr) (f : Byte → Byte → Byte) :
    Ends s.sameNext (s.logicFields n a1 a2 f) :=
  .withStorage (by simp) fun _ => .complete rfl

theorem execClc_ends_sameNext (l : Byte) (b1 : RegNum) (d1 : Disp) (b2 : RegNum) (d2 : Disp) :
    Ends s.sameNext (execClc l b1 d1 b2 d2 s) := by
  unfold execClc
  split
  · exact .accessTerminated rfl
  · exact .withValue fun _ => .withValue fun _ => .complete rfl

theorem execTr_ends_sameNext (l : Byte) (b1 : RegNum) (d1 : Disp) (b2 : RegNum) (d2 : Disp) :
    Ends s.sameNext (execTr l b1 d1 b2 d2 s) :=
  .withStorage (by simp) fun _ => .complete rfl

theorem execTrt_ends_sameNext (l : Byte) (b1 : RegNum) (d1 : Disp) (b2 : RegNum) (d2 : Disp) :
    Ends s.sameNext (execTrt l b1 d1 b2 d2 s) := by
  unfold execTrt
  split
  · exact .terminateBy rfl
  · exact .complete rfl
  · exact .complete rfl

theorem execEd_ends_sameNext (l : Byte) (b1 : RegNum) (d1 : Disp) (b2 : RegNum) (d2 : Disp) :
    Ends s.sameNext (execEd l b1 d1 b2 d2 s) := by
  unfold execEd
  split
  · exact .terminateBy (by simp)
  · exact .complete rfl

theorem execEdmk_ends_sameNext (l : Byte) (b1 : RegNum) (d1 : Disp) (b2 : RegNum) (d2 : Disp) :
    Ends s.sameNext (execEdmk l b1 d1 b2 d2 s) := by
  unfold execEdmk
  split
  · exact .terminateBy (s.next_freeBytes _ _)
  · next e _ =>
    refine .complete ?_
    cases e.mark <;> rfl

theorem moveDecimal_ends_sameNext (a1 : Addr) (l1 : Nat) (a2 : Addr) (l2 used : Nat) (m : Option Memory) :
    Ends s.sameNext (s.moveDecimal a1 l1 a2 l2 used m) :=
  .withStorage (by simp) fun _ => .complete rfl

theorem finishDecimal_ends_sameNext (a : Addr) (n : Nat) (v : Int) : Ends s.sameNext (s.finishDecimal a n v) :=
  .completeWith rfl

theorem execZap_ends_sameNext (l1 l2 b1 : RegNum) (d1 : Disp) (b2 : RegNum) (d2 : Disp) :
    Ends s.sameNext (execZap l1 l2 b1 d1 b2 d2 s) := by
  refine .withFields (by simp) (.withDecimal (by simp) fun d => ?_)
  split
  · exact .completeWith (by simp)
  · exact finishDecimal_ends_sameNext s _ _ _

theorem execCp_ends_sameNext (l1 l2 b1 : RegNum) (d1 : Disp) (b2 : RegNum) (d2 : Disp) :
    Ends s.sameNext (execCp l1 l2 b1 d1 b2 d2 s) := by
  unfold execCp
  split
  · exact .accessTerminated rfl
  · exact .withDecimal rfl fun _ => .withDecimal rfl fun _ => .complete rfl

theorem addDecimal_ends_sameNext (a1 : Addr) (n1 : Nat) (a2 : Addr) (n2 : Nat) (op : Int → Int → Int) :
    Ends s.sameNext (s.addDecimal a1 n1 a2 n2 op) :=
  .withFields (by simp) (.withDecimal (by simp) fun _ =>
    .withDecimal (by simp) fun _ => finishDecimal_ends_sameNext s _ _ _)

theorem execMp_ends_sameNext (l1 l2 b1 : RegNum) (d1 : Disp) (b2 : RegNum) (d2 : Disp) :
    Ends s.sameNext (execMp l1 l2 b1 d1 b2 d2 s) := by
  refine .withFactors rfl (by simp) fun v1 v2 => ?_
  split
  · exact .complete rfl
  · exact .terminateBy (stop := .data) (s.next_freeBytes _ _)

theorem execDp_ends_sameNext (l1 l2 b1 : RegNum) (d1 : Disp) (b2 : RegNum) (d2 : Disp) :
    Ends s.sameNext (execDp l1 l2 b1 d1 b2 d2 s) := by
  refine .withFactors rfl (by simp) fun v1 v2 => ?_
  split
  · exact .suppress rfl
  · exact .complete rfl

/-! ## All instructions that do not branch -/

/-- Every instruction but the branches and EX ends with the `next` it began with; the cases are grouped by the checks
that come before the ending. -/
theorem exec_ends_sameNext (i : Instr) (hi : mayBranch i = false) : Ends s.sameNext (exec i s) := by
  unfold exec
  cases i with
  | balr | bctr | bcr | bal | bct | bc | bxh | bxle | ex => cases hi
  | svc => exact .suppress rfl
  | spm | ltr | nr | or | xr | clr | lr | cr | la | srl | sll | sra => exact .complete rfl
  | lpr | lnr | lcr | ar | sr | alr | slr | sla => exact finishArith_ends_sameNext s _ _
  | mr | srdl | sldl | srda => exact .withEven rfl (.complete rfl)
  | slda => exact .withEven rfl (finishArithPair_ends_sameNext s _ _)
  | dr => exact .withEven rfl (.finishDivide rfl fun _ _ => rfl)
  | ssk | isk => exact .privileged rfl (.withBlock rfl fun _ => .complete rfl)
  | idl | pc | dig | wrd | rdd | sdv | tdv | hdv | ckc | ssp | lsp => exact .privileged rfl (.refused _)
  | lpdr | lndr | ltdr | lcdr | ldr | cdr | lper | lner | lter | lcer | ler | cer =>
    exact .withFregs rfl (.complete rfl)
  | hdr | adr | sdr | awr | swr | mdr | ddr | mer => exact .withFregs rfl (finishLong_ends_sameNext s _ _)
  | her | aer | ser | aur | sur | der => exact .withFregs rfl (finishShort_ends_sameNext s _ _)
  | ic | lh | ch | mh | n | o | x | cl | l | c | tm | cli => exact .withRead rfl fun _ => .complete rfl
  | ah | sh | a | s | al | sl => exact .withRead rfl fun _ => finishArith_ends_sameNext s _ _
  | m => exact .withEven rfl (.withRead rfl fun _ => .complete rfl)
  | d => exact .withEven rfl (.withRead rfl fun _ => .finishDivide rfl fun _ _ => rfl)
  | cvb => exact execCvb_ends_sameNext s _ _ _ _
  | sth | stc | cvd | st | mvi => exact .withWrite rfl fun _ => .complete rfl
  | ts | ni | oi | xi => exact .withUpdate rfl fun _ _ => .complete rfl
  | ld | cd | le | ce => exact .withFreg rfl (.withRead rfl fun _ => .complete rfl)
  | ad | sd | md | dd | aw | sw | me => exact .withFreg rfl (.withRead rfl fun _ => finishLong_ends_sameNext s _ _)
  | ae | se | de | au | su => exact .withFreg rfl (.withRead rfl fun _ => finishShort_ends_sameNext s _ _)
  | std | ste => exact .withFreg rfl (.withWrite rfl fun _ => .complete rfl)
  | stm => exact execStm_ends_sameNext s _ _ _ _
  | lm => exact execLm_ends_sameNext s _ _ _ _
  | mvn | mvc | mvz => exact moveFields_ends_sameNext s _ _ _ _
  | nc | oc | xc => exact logicFields_ends_sameNext s _ _ _ _
  | clc => exact execClc_ends_sameNext s _ _ _ _ _
  | tr => exact execTr_ends_sameNext s _ _ _ _ _
  | trt => exact execTrt_ends_sameNext s _ _ _ _ _
  | ed => exact execEd_ends_sameNext s _ _ _ _ _
  | edmk => exact execEdmk_ends_sameNext s _ _ _ _ _
  | mvo | pack | unpk => exact moveDecimal_ends_sameNext s _ _ _ _ _ _
  | zap => exact execZap_ends_sameNext s _ _ _ _ _ _
  | cp => exact execCp_ends_sameNext s _ _ _ _ _ _
  | ap | sp => exact addDecimal_ends_sameNext s _ _ _ _ _
  | mp => exact execMp_ends_sameNext s _ _ _ _ _ _
  | dp => exact execDp_ends_sameNext s _ _ _ _ _ _

end Sys2Proof.Machine
end

section
/-! PROOFS. The instruction cycle by the bytes at `pc` (00_scope R11, 60_exceptions R426, R429), and the privileged
check (R431). -/

namespace Sys2Proof.Machine

theorem State.settle_of_running {s : State} (h : s.run = .running) : s.settle = s.takeInterrupt none := by
  rw [State.settle, h]

theorem State.settle_of_not_running {s : State} (h : s.run ≠ .running) : s.settle = s := by
  unfold State.settle
  split
  · next hr => exact absurd hr h
  · rfl

theorem step_of_ended {s : State} {c : Condition} {info : Info} (h : s.run = .ended c info) :
    step s = .fault (.interruptTaken c info) := by
  rw [step, h]

/-- The step of a running state whose bytes at `pc` decode. -/
theorem step_of_decoded {s : State} {bs : List Byte} {i : Instr} (hrun : s.run = .running)
    (hfetch : s.fetchBytes s.pc = .ok bs) (hdecode : decode bs = .instr i) :
    step s = settleResult (exec i (s.beginInstr bs.length)) := by
  simp only [step, hrun, hfetch, hdecode]

theorem State.privileged_of_authorized {s : State} (h : s.cfg.privileged = true) (k : Result) : s.privileged k = k :=
  if_pos h

end Sys2Proof.Machine
end

section
/-! PROOFS. The obligations of 00_scope. -/

open Sys2Proof.Machine

/-- Settles O15: every ending advances `pc` to `next`, and no update before it moves `next`. -/
theorem sequentialAdvance : Obligations.SequentialAdvance := by
  unfold Obligations.SequentialAdvance
  intro i s t ht hi
  exact (exec_ends_sameNext s i hi).pc_eq ht

/-- Settles O4, from what the step of a decoded instruction is and what settling its next state does. -/
theorem stepRunsDecoded : Obligations.StepRunsDecoded := by
  unfold Obligations.StepRunsDecoded
  refine ⟨fun s bs i hrun hfetch hdecode => ?_, fun s c info hended => step_of_ended hended⟩
  have hstep : step s = settleResult (exec i { s with ilc := BitVec.ofNat 2 (bs.length / 2) }) :=
    step_of_decoded hrun hfetch hdecode
  refine ⟨fun t ht => ?_, fun r hr => by rw [hstep, hr]; rfl⟩
  have hsettle : step s = .next t.settle := by rw [hstep, ht]; rfl
  refine ⟨fun _ hidle => ?_, fun hgoes => ?_, fun hends => ?_⟩
  · rw [hsettle, t.settle_of_idle hidle]
  · rw [hsettle, State.settle_of_running hgoes]
  · rw [hsettle, State.settle_of_not_running hends]

/-- Settles O34: with privilege the check goes on to the refusal, the whole meaning of each of the eleven. -/
theorem noSemanticsRefused : Obligations.NoSemanticsRefused := by
  unfold Obligations.NoSemanticsRefused
  intro s i2 l b1 b2 d1 d2 h
  and_intros <;> exact State.privileged_of_authorized h _
end

section
/-! PROOFS. Storage before and after an instruction: a chain of byte writes, each at an address of a given set
(20_memory R50, R56; 10_state R37). -/

namespace Sys2Proof.Machine

/-- `m'` is `m` after writes of single bytes, each at an address that satisfies `p`. -/
inductive Memory.Rewrites (p : Addr → Prop) : Memory → Memory → Prop
  | refl (m : Memory) : Memory.Rewrites p m m
  | write {m m' : Memory} {a : Addr} {b : Byte} (ha : p a) (h : Memory.Rewrites p (m.write a b) m') :
    Memory.Rewrites p m m'

variable {p : Addr → Prop} {m m' m'' : Memory} {a : Addr} {n : Nat}

theorem Memory.Rewrites.trans (h : Memory.Rewrites p m m') (h' : Memory.Rewrites p m' m'') :
    Memory.Rewrites p m m'' := by
  induction h with
  | refl => exact h'
  | write ha _ ih => exact .write ha (ih h')

theorem Memory.Rewrites.single {b : Byte} (ha : p a) : Memory.Rewrites p m (m.write a b) := .write ha (.refl _)

theorem Memory.Rewrites.wf (h : Memory.Rewrites p m m') (hm : m.wf = true) : m'.wf = true := by
  induction h with
  | refl => exact hm
  | write _ _ ih => exact ih (Memory.wf_write _ _ hm)

theorem Memory.Rewrites.bounded (h : Memory.Rewrites (fun a => a.toNat < n) m m') (hm : sparseBelow m n = true) :
    sparseBelow m' n = true := by
  induction h with
  | refl => exact hm
  | write ha _ ih => exact ih (sparseBelow_sparsePut _ _ hm ha)

/-! ## The bytes of a field -/

/-- Each of the `n` bytes from `a` on is at an address that satisfies `p`. -/
def FieldIn (p : Addr → Prop) (a : Addr) (n : Nat) : Prop := ∀ i < n, p (addrPlus a i)

theorem addrPlus_zero (a : Addr) : addrPlus a 0 = a := by simp [addrPlus]

theorem addrPlus_addrPlus (a : Addr) (i j : Nat) : addrPlus (addrPlus a i) j = addrPlus a (i + j) := by
  unfold addrPlus
  rw [BitVec.add_assoc, BitVec.ofNat_add]

theorem FieldIn.head (h : FieldIn p a (n + 1)) : p a := addrPlus_zero a ▸ h 0 (by omega)

/-- The bytes from the `i`-th on, as far as the field goes. -/
theorem FieldIn.drop {i k : Nat} (h : FieldIn p a n) (hik : i + k ≤ n) : FieldIn p (addrPlus a i) k := by
  intro j hj
  rw [addrPlus_addrPlus]
  exact h (i + j) (by omega)

theorem FieldIn.tail (h : FieldIn p a (n + 1)) : FieldIn p (a + 1) n := h.drop (i := 1) (by omega)

/-- The address is one of main storage as installed (R56). -/
def State.installed (s : State) (a : Addr) : Prop := a.toNat < s.cfg.memSize

theorem State.installed_congr {s u : State} (h : u.cfg = s.cfg) : u.installed = s.installed := by
  unfold State.installed
  rw [h]

theorem State.fieldIn_of_inStorage {s : State} (h : s.inStorage a n = true) :
    FieldIn s.installed a n := (s.inStorage_iff a n).mp h

/-! ## What the operations of the model write -/

theorem Memory.rewrites_storeBytes {bs : List Byte} (h : FieldIn p a bs.length) :
    Memory.Rewrites p m (m.storeBytes a bs) := by
  induction bs generalizing m a with
  | nil => exact .refl _
  | cons b bs ih => exact .write h.head (ih h.tail)

theorem Memory.rewrites_storeValue {v : Nat} (h : FieldIn p a n) : Memory.Rewrites p m (m.storeValue a n v) :=
  Memory.rewrites_storeBytes (by rwa [length_bytesOfNat])

theorem State.rewrites_storeRegisters (s : State) {k : Nat} {r : RegNum} (h : FieldIn p a (4 * k)) :
    Memory.Rewrites p m (s.storeRegisters k r a m) := by
  induction k generalizing r a m with
  | zero => exact .refl _
  | succ k ih =>
    have hword : FieldIn p a 4 := fun i hi => h i (by omega)
    exact (Memory.rewrites_storeValue hword).trans (ih (h.drop (i := 4) (by omega)))

/-- Freeing writes only bytes that lie in storage. -/
theorem State.rewrites_freeBytes {s : State} (h : FieldIn (fun b => s.installed b → p b) a n) :
    Memory.Rewrites p s.mem (s.freeBytes a n).mem := by
  induction n generalizing s a with
  | zero => exact .refl _
  | succ n ih =>
    unfold State.freeBytes
    split
    · next hin => exact .write (h.head hin) (ih (s := (s.draw 8).2.setMem _) h.tail)
    · exact ih h.tail

theorem rewrites_combineBytes {f : Option Byte → Byte → Option Byte} {a2 : Addr} (h : FieldIn p a n)
    (e : combineBytes f n m a a2 = some m') : Memory.Rewrites p m m' := by
  induction n generalizing m a a2 with
  | zero => cases e; exact .refl _
  | succ n ih =>
    unfold combineBytes at e
    split at e
    · cases e
    · exact .write h.head (ih h.tail e)

theorem rewrites_translateBytes {size : Nat} {a2 : Addr} (h : FieldIn p a n)
    (e : translateBytes size a2 n m a = .ok m') : Memory.Rewrites p m m' := by
  induction n generalizing m a with
  | zero => cases e; exact .refl _
  | succ n ih =>
    unfold translateBytes at e
    split at e
    · cases e
    · exact .write h.head (ih h.tail e)

variable {l1 l2 k j : Nat} {a2 : Addr}

/-- The byte `j` places left of the rightmost, where a right-to-left operation stores step `j`. -/
theorem FieldIn.leftward (h : FieldIn p a (l1 + 1)) (j : Nat) : p (addrPlus a (l1 - j)) := h _ (by omega)

theorem rewrites_swapStep (h : FieldIn p a (l1 + 1)) (e : swapStep m a l1 a2 l2 = some m') :
    Memory.Rewrites p m m' := by
  obtain ⟨b, -, rfl⟩ := Option.map_eq_some_iff.mp e
  exact .single (h.leftward 0)

theorem rewrites_moveOffset {b : Byte} (h : FieldIn p a (l1 + 1)) (e : moveOffset a l1 a2 l2 k j b m = some m') :
    Memory.Rewrites p m m' := by
  induction k generalizing j b m with
  | zero => cases e; exact .refl _
  | succ k ih =>
    unfold moveOffset at e
    split at e
    · cases e
    · exact .write (h.leftward j) (ih e)

theorem rewrites_packBytes (h : FieldIn p a (l1 + 1)) (e : packBytes a l1 a2 l2 k j m = some m') :
    Memory.Rewrites p m m' := by
  induction k generalizing j m with
  | zero => cases e; exact .refl _
  | succ k ih =>
    unfold packBytes at e
    split at e
    · exact .write (h.leftward j) (ih e)
    · cases e

theorem rewrites_unpackBytes {z : BitVec 4} (h : FieldIn p a (l1 + 1))
    (e : unpackBytes z a l1 a2 l2 k j m = some m') : Memory.Rewrites p m m' := by
  induction k generalizing j m with
  | zero => cases e; exact .refl _
  | succ k ih =>
    unfold unpackBytes at e
    split at e
    · cases e
    · exact .write (h.leftward j) (ih e)

/-- A step of the edit stores at most the pattern byte it stands at. -/
theorem Edit.rewrites_step {s : State} {e e' : Edit} (ha : p a) (h : e.step s a = .ok e') :
    Memory.Rewrites p e.mem e'.mem := by
  unfold Edit.step at h
  split at h
  · cases h
  · split at h
    · split at h
      · cases h
      · cases h; exact .single ha
    · split at h
      · cases h; exact .single ha
      · split at h
        · cases h; exact .refl _
        · cases h; exact .single ha

theorem Edit.rewrites_run {s : State} {e e' : Edit} (hp : FieldIn p a n) (h : Edit.run s n a e = .ok e') :
    Memory.Rewrites p e.mem e'.mem := by
  induction n generalizing a e with
  | zero =>
    unfold Edit.run at h
    split at h
    · cases h
    · cases h; exact .refl _
  | succ n ih =>
    unfold Edit.run at h
    split at h
    · cases h
    · next e1 he => exact (Edit.rewrites_step hp.head he).trans (ih hp.tail h)

/-- An edit that goes through stores into its pattern, which lies in storage. -/
theorem State.rewrites_edit {s : State} {e : Edit} (h : s.edit n a a2 = .ok e) :
    Memory.Rewrites s.installed s.mem e.mem := by
  unfold State.edit at h
  split at h
  · cases h
  · next hin =>
    split at h
    · cases h
    · exact Edit.rewrites_run (State.fieldIn_of_inStorage (by simpa using hin)) h

/-- A translation that goes through stores into its argument field, which lies in storage. -/
theorem State.rewrites_translate {s : State} (h : s.translate n a a2 = .ok m) :
    Memory.Rewrites s.installed s.mem m := by
  unfold State.translate at h
  split at h
  · cases h
  · next hin =>
    split at h
    · cases h
    · next hm =>
      split at h
      · cases h
        exact rewrites_translateBytes (State.fieldIn_of_inStorage (by simpa using hin)) hm
      · cases h

end Sys2Proof.Machine
end

section
/-! PROOFS. From the meaning of an instruction to the whole step: what holds of every next state (00_scope R11, R12,
42_rx_general R234). -/

namespace Sys2Proof.Machine

/-- Where the result is a next state, `P` holds of it. -/
def Yields (P : State → Prop) (r : Result) : Prop := ∀ t, r = .next t → P t

/-- `P` does not look at what the instruction cycle itself writes: `pc`, `ilc`, the flags and the outcome mark. -/
def CycleFree (P : State → Prop) : Prop :=
  ∀ (u : State) (pc : Addr) (ilc : BitVec 2) (ifr : BitVec 32) (run : RunMark), P u →
    P { u with pc := pc, ilc := ilc, ifr := ifr, run := run }

variable {P : State → Prop} {s u : State}

theorem CycleFree.advance (hP : CycleFree P) (h : P u) : P u.advance := hP u _ _ _ _ h

theorem CycleFree.branchTo (hP : CycleFree P) (t : Addr) (h : P u) : P (u.branchTo t) := hP u _ _ _ _ h

theorem CycleFree.beginInstr (hP : CycleFree P) (n : Nat) (h : P u) : P (u.beginInstr n) := hP u _ _ _ _ h

theorem CycleFree.raise (hP : CycleFree P) (c : Condition) (info : Info) (h : P u) : P (u.raise c info) := by
  rw [State.raise_eq]
  exact hP u _ _ _ _ h

theorem CycleFree.settle (hP : CycleFree P) (h : P u) : P u.settle := by
  rw [State.settle_run_only]
  exact hP u _ _ _ _ h

/-! ## Instructions -/

theorem Yields.refused (r : Refusal) : Yields P (.refused r) := by
  rintro t ⟨⟩

theorem Yields.suppress (hP : CycleFree P) (h : P s) (c : Condition) (info : Info) : Yields P (s.suppress c info) := by
  rintro t ⟨⟩
  exact hP.raise _ _ (hP.advance h)

theorem Yields.branchIf (hP : CycleFree P) (h : P s) (taken : Bool) (a : Addr) : Yields P (s.branchIf taken a) := by
  rintro t ⟨⟩
  cases taken
  · exact hP.advance h
  · exact hP.branchTo a h

/-- What holds of the state an instruction ends with holds after the ending. -/
theorem Ends.yields {r : Result} (hP : CycleFree P) (h : Ends P r) : Yields P r := by
  intro t ht
  obtain ⟨u, hu, rfl | ⟨c, info, rfl⟩⟩ := h t ht
  · exact hP.advance hu
  · exact hP.raise _ _ (hP.advance hu)

/-- EX runs its subject by the subject's own rule, unless that is an EX. -/
theorem execSubject_cases (i : Instr) (s : State) :
    execSubject i s = .refused .exOfEx ∨ (∀ r x b d, i ≠ .ex r x b d) ∧ execSubject i s = exec i s := by
  cases i with
  | ex => exact .inl rfl
  | _ => exact .inr ⟨nofun, rfl⟩

/-- What holds after every instruction that is not EX, and of the state itself, holds after EX. -/
theorem execEx_yields (hP : CycleFree P) (hs : P s)
    (h : ∀ i : Instr, (∀ r x b d, i ≠ .ex r x b d) → Yields P (exec i s)) (r1 x2 b2 : RegNum) (d2 : Disp) :
    Yields P (execEx r1 x2 b2 d2 s) := by
  unfold execEx
  split
  · intro t ht
    obtain ⟨c, info, -, rfl⟩ := State.suppressBy_next ht
    exact hP.raise _ _ (hP.advance hs)
  · unfold State.runSubject
    split
    · next i _ =>
      rcases execSubject_cases i s with hx | ⟨hi, hx⟩ <;> rw [hx]
      · exact .refused _
      · exact h i hi
    · exact .suppress hP hs _ _
    · exact .suppress hP hs _ _

/-! ## The step -/

/-- What holds of a state and after every instruction in it, whatever its length, holds after the step. -/
theorem step_yields (hP : CycleFree P) (hs : P s) (h : ∀ i n, Yields P (exec i (s.beginInstr n))) :
    Yields P (step s) := by
  unfold step
  split
  · rintro t ⟨⟩
  · split
    · intro t ht
      obtain ⟨c, info, -, rfl⟩ := State.fetchStopped_next ht
      exact hP.raise _ _ hs
    · split
      · intro t ht
        obtain ⟨u, hu, rfl⟩ := settleResult_next ht
        exact hP.settle (h _ _ u hu)
      · exact .suppress hP (hP.beginInstr _ hs) _ _
      · exact .suppress hP (hP.beginInstr _ hs) _ _

end Sys2Proof.Machine
end

section
/-! PROOFS. What an instruction may change: the frame of an instruction, as one rule per update of the state
(10_state R23, R28, R30, R33, R37, R39). -/

namespace Sys2Proof.Machine

/-- `u` comes from `s` as any instruction may have it: the parameters are the same, storage differs by bytes written
below `MEM_SIZE`, and at most one key differs, of a block in storage, and only with privilege. -/
structure State.Kept (s u : State) : Prop where
  cfg : u.cfg = s.cfg
  stores : Memory.Rewrites s.installed s.mem u.mem
  keyed : u.keys = s.keys ∨
    s.cfg.privileged = true ∧ ∃ b k, b * 2048 < s.cfg.memSize ∧ u.keys = s.keys.write b k

/-- `u` comes from `s` as instruction `i`, not an EX, may have it: what `i` may not write is as it was. -/
structure State.Framed (i : Instr) (s u : State) : Prop extends State.Kept s u where
  x : isFloating i = true → u.x = s.x
  f : isFloating i = false → u.f = s.f
  cc : mayWriteCC i = false → u.cc = s.cc
  pm : mayWriteMask i = false → u.pm = s.pm
  keys : mayWriteKey i = false → u.keys = s.keys
  mem : mayStore i = false → u.mem = s.mem

variable {i : Instr} {s u : State}

theorem State.Kept.refl (s : State) : s.Kept s := ⟨rfl, .refl _, .inl rfl⟩

theorem State.kept_cycleFree (s : State) : CycleFree s.Kept := fun _ _ _ _ _ h => ⟨h.cfg, h.stores, h.keyed⟩

theorem State.framed_cycleFree (i : Instr) (s : State) : CycleFree (s.Framed i) := fun _ _ _ _ _ h =>
  { h with toKept := s.kept_cycleFree _ _ _ _ _ h.toKept }

/-- Canonical storage and keys stay canonical and within their bounds. -/
theorem State.Kept.inv (h : s.Kept u) (hs : s.inv = true) : u.inv = true := by
  simp only [State.inv, Bool.and_eq_true] at hs ⊢
  obtain ⟨⟨⟨⟨hmem, hbelow⟩, hkeys⟩, hblocks⟩, hvalid⟩ := hs
  have hkeyed : u.keys.wf = true ∧ sparseBelow u.keys (s.cfg.memSize / 2048) = true := by
    rcases h.keyed with hk | ⟨-, b, k, hb, hk⟩ <;> rw [hk]
    · exact ⟨hkeys, hblocks⟩
    · have hdvd : s.cfg.memSize % 2048 = 0 := by
        simp only [Config.valid, Bool.and_eq_true, beq_iff_eq] at hvalid
        obtain ⟨⟨hdvd, -⟩, -⟩ := hvalid
        exact hdvd
      exact ⟨Keys.wf_write b k hkeys, Keys.below_write b k hblocks (by omega)⟩
  rw [h.cfg]
  exact ⟨⟨⟨⟨h.stores.wf hmem, h.stores.bounded hbelow⟩, hkeyed.1⟩, hkeyed.2⟩, hvalid⟩

/-! ## One rule per update -/

theorem State.Framed.refl (i : Instr) (s : State) : s.Framed i s :=
  ⟨.refl s, fun _ => rfl, fun _ => rfl, fun _ => rfl, fun _ => rfl, fun _ => rfl, fun _ => rfl⟩

/-- An instruction that is not floating-point may write general registers, and draw free values. -/
theorem State.Framed.withX (h : s.Framed i u) (hi : isFloating i = false) (x : Vector Word 16) (d : Nat) :
    s.Framed i { u with x := x, draws := d } :=
  ⟨⟨h.cfg, h.stores, h.keyed⟩, fun hf => absurd (hi.symm.trans hf) (by decide), h.f, h.cc, h.pm, h.keys, h.mem⟩

theorem State.Framed.withF (h : s.Framed i u) (hi : isFloating i = true) (f : Vector DWord 4) (d : Nat) :
    s.Framed i { u with f := f, draws := d } :=
  ⟨⟨h.cfg, h.stores, h.keyed⟩, h.x, fun hf => absurd (hf.symm.trans hi) (by decide), h.cc, h.pm, h.keys, h.mem⟩

theorem State.Framed.withCC (h : s.Framed i u) (hi : mayWriteCC i = true) (c : CC) (d : Nat) :
    s.Framed i { u with cc := c, draws := d } :=
  ⟨⟨h.cfg, h.stores, h.keyed⟩, h.x, h.f, fun hf => absurd (hf.symm.trans hi) (by decide), h.pm, h.keys, h.mem⟩

theorem State.Framed.withMem (h : s.Framed i u) (hi : mayStore i = true) {m : Memory}
    (hm : Memory.Rewrites s.installed s.mem m) (d : Nat) :
    s.Framed i { u with mem := m, draws := d } :=
  ⟨⟨h.cfg, hm, h.keyed⟩, h.x, h.f, h.cc, h.pm, h.keys, fun hf => absurd (hf.symm.trans hi) (by decide)⟩

theorem State.Framed.setPm (h : s.Framed i u) (hi : mayWriteMask i = true) (m : BitVec 4) :
    s.Framed i (u.setPm m) :=
  ⟨⟨h.cfg, h.stores, h.keyed⟩, h.x, h.f, h.cc, fun hf => absurd (hf.symm.trans hi) (by decide), h.keys, h.mem⟩

theorem State.Framed.setKey_self (hi : mayWriteKey i = true) (hpriv : s.cfg.privileged = true) {b : Nat}
    (hb : b * 2048 < s.cfg.memSize) (k : BitVec 4) : s.Framed i (s.setKey b k) :=
  ⟨⟨rfl, .refl _, .inr ⟨hpriv, b, k, hb, rfl⟩⟩, fun _ => rfl, fun _ => rfl, fun _ => rfl, fun _ => rfl,
    fun hf => absurd (hf.symm.trans hi) (by decide), fun _ => rfl⟩

section GeneralRegisters

variable (h : s.Framed i u) (hi : isFloating i = false)
include h hi

theorem State.Framed.setGpr (r : RegNum) (v : Word) : s.Framed i (u.setGpr r v) := h.withX hi _ _

theorem State.Framed.setPair (r : RegNum) (v : DWord) : s.Framed i (u.setPair r v) := (h.setGpr hi _ _).setGpr hi _ _

theorem State.Framed.setGprAddr (r : RegNum) (a : Addr) : s.Framed i (u.setGprAddr r a) := h.setGpr hi _ _

theorem State.Framed.freeGprLow (r : RegNum) (n : Nat) : s.Framed i (u.freeGprLow r n) := h.withX hi _ _

theorem State.Framed.freeGprs (r : RegNum) (k : Nat) : s.Framed i (u.freeGprs r k) := by
  induction k generalizing u r with
  | zero => exact h
  | succ k ih => exact ih (h.withX hi _ _) _

theorem State.Framed.loadRegisters {t : State} {k : Nat} {r : RegNum} {a : Addr}
    (ht : u.loadRegisters k r a = some t) : s.Framed i t := by
  rw [State.loadRegisters_x_only ht]
  exact h.withX hi _ _

end GeneralRegisters

section FloatingRegisters

variable (h : s.Framed i u) (hi : isFloating i = true)
include h hi

theorem State.Framed.setFpr (r : RegNum) (v : DWord) : s.Framed i (u.setFpr r v) := h.withF hi _ _

theorem State.Framed.setFprShort (r : RegNum) (v : Word) : s.Framed i (u.setFprShort r v) := h.withF hi _ _

theorem State.Framed.setFValue (r : RegNum) (v : FValue) : s.Framed i (u.setFValue r v) := by
  cases v with
  | keep => exact h
  | set | any => exact h.withF hi _ _

theorem State.Framed.setFValueShort (r : RegNum) (v : FValue) : s.Framed i (u.setFValueShort r v) := by
  cases v with
  | keep => exact h
  | set | any => exact h.withF hi _ _

end FloatingRegisters

theorem State.Framed.setCC (h : s.Framed i u) (hi : mayWriteCC i = true) (c : CC) : s.Framed i (u.setCC c) :=
  h.withCC hi _ _

theorem State.Framed.freeCC (h : s.Framed i u) (hi : mayWriteCC i = true) : s.Framed i u.freeCC := h.withCC hi _ _

/-- A floating-point result that says so leaves `cc`, whatever the instruction. -/
theorem State.Framed.setFCode (h : s.Framed i u) {c : FCode} (hi : mayWriteCC i = true ∨ c = .keep) :
    s.Framed i (u.setFCode c) := by
  cases c with
  | keep => exact h
  | set | anyBelow3 => exact h.withCC (hi.resolve_right nofun) _ _

theorem State.Framed.setMem (h : s.Framed i u) (hi : mayStore i = true) {m : Memory}
    (hm : Memory.Rewrites s.installed s.mem m) : s.Framed i (u.setMem m) := h.withMem hi hm _

theorem State.freeBytes_mem_only (s : State) (a : Addr) (n : Nat) :
    s.freeBytes a n = { s with mem := (s.freeBytes a n).mem, draws := (s.freeBytes a n).draws } := by
  induction n generalizing s a with
  | zero => rfl
  | succ n ih =>
    unfold State.freeBytes
    rw [ih]
    split <;> rfl

theorem State.Framed.freeBytes (h : s.Framed i u) (hi : mayStore i = true) (a : Addr) (n : Nat) :
    s.Framed i (u.freeBytes a n) := by
  have hm : Memory.Rewrites u.installed u.mem (u.freeBytes a n).mem := State.rewrites_freeBytes fun _ _ => id
  rw [State.installed_congr h.cfg] at hm
  rw [State.freeBytes_mem_only]
  exact h.withMem hi (h.stores.trans hm) _

end Sys2Proof.Machine
end

section
/-! PROOFS. Every instruction keeps its frame, however it ends. -/

namespace Sys2Proof.Machine

/-! ## Storage that passed its checks -/

section Checks

variable {s : State} {a a2 : Addr} {n n2 : Nat} {m : Memory}

theorem State.fieldIn_of_fieldFault {stores : Bool} (h : s.fieldFault a n a2 n2 stores = none) :
    FieldIn s.installed a n :=
  State.fieldIn_of_inStorage ((s.fieldFault_none_iff _ _ _ _ _).mp h).1

theorem State.fieldIn_of_writeFault (h : s.writeFault a n = none) : FieldIn s.installed a n :=
  State.fieldIn_of_inStorage ((s.writeFault_none_iff _ _).mp h).2.1

theorem State.rewrites_combineFields {f : Option Byte → Byte → Option Byte} (h : s.combineFields n a a2 f = .ok m) :
    Memory.Rewrites s.installed s.mem m := by
  unfold State.combineFields at h
  split at h
  · cases h
  · next hfault =>
    cases hm : combineBytes f n s.mem a a2 with
    | none => rw [hm] at h; cases h
    | some m' =>
      rw [hm] at h
      cases h
      exact rewrites_combineBytes (State.fieldIn_of_fieldFault hfault) hm

theorem Ends.withStorage_ok {P : State → Prop} {freed : State} {r : Except Stop Memory} {k : Memory → Result}
    (hf : P freed) (hk : ∀ m, r = .ok m → Ends P (k m)) : Ends P (freed.withStorage r k) := by
  rcases freed.withStorage_cases r k with ⟨stop, _, h⟩ | ⟨m, hm, h⟩ <;> rw [h]
  · exact .terminateBy hf
  · exact hk m hm

theorem Ends.withFields_fieldIn {P : State → Prop} {freed : State} {k : Result} (hf : P freed)
    (hk : FieldIn s.installed a n → Ends P k) : Ends P (s.withFields a n a2 n2 freed k) := by
  unfold State.withFields
  split
  · exact .accessTerminated hf
  · next h => exact hk (State.fieldIn_of_fieldFault h)

end Checks

variable {i : Instr} {s : State}

/-! ## Shared endings -/

theorem finishArith_ends_framed (hx : isFloating i = false) (hc : mayWriteCC i = true) (r : RegNum) (v : Arith 32) :
    Ends (s.Framed i) (s.finishArith r v) :=
  .completeWith (((State.Framed.refl i s).setGpr hx _ _).setCC hc _)

theorem finishArithPair_ends_framed (hx : isFloating i = false) (hc : mayWriteCC i = true) (r : RegNum)
    (v : Arith 64) : Ends (s.Framed i) (s.finishArithPair r v) :=
  .completeWith (((State.Framed.refl i s).setPair hx _ _).setCC hc _)

theorem finishLogic_ends_framed (hx : isFloating i = false) (hc : mayWriteCC i = true) (r : RegNum) (v : Word) :
    Ends (s.Framed i) (s.finishLogic r v) :=
  .complete (((State.Framed.refl i s).setGpr hx _ _).setCC hc _)

theorem finishDivide_ends_framed (hx : isFloating i = false) (r : RegNum) (v : Option (Word × Word)) :
    Ends (s.Framed i) (s.finishDivide r v) :=
  .finishDivide (.refl i s) fun _ _ => ((State.Framed.refl i s).setGpr hx _ _).setGpr hx _ _

theorem finishLong_ends_framed (hf : isFloating i = true) (r : RegNum) {v : FResult}
    (hc : mayWriteCC i = true ∨ v.cc = .keep) : Ends (s.Framed i) (s.finishLong r v) :=
  .completeWith (((State.Framed.refl i s).setFValue hf _ _).setFCode hc)

theorem finishShort_ends_framed (hf : isFloating i = true) (r : RegNum) {v : FResult}
    (hc : mayWriteCC i = true ∨ v.cc = .keep) : Ends (s.Framed i) (s.finishShort r v) :=
  .completeWith (((State.Framed.refl i s).setFValueShort hf _ _).setFCode hc)

theorem withWrite_ends_framed (hm : mayStore i = true) {a : Addr} {n v : Nat} :
    Ends (s.Framed i) (s.withWrite a n v fun t => t.complete) := by
  rcases s.withWrite_cases a n v fun t => t.complete with ⟨_, _, h⟩ | ⟨hnone, h⟩ <;> rw [h]
  · exact .addressFault (.refl i s)
  · exact .complete ((State.Framed.refl i s).setMem hm
      (Memory.rewrites_storeValue (State.fieldIn_of_writeFault hnone)))

theorem withUpdate_ends_framed (hm : mayStore i = true) (hc : mayWriteCC i = true) {a : Addr} {f : Byte → Byte}
    {code : Byte → CC} : Ends (s.Framed i) (s.withUpdate a f fun v t => (t.setCC (code v)).complete) := by
  rcases s.withUpdate_cases a f fun v t => (t.setCC (code v)).complete with
    ⟨_, _, h⟩ | ⟨_, _, h⟩ | ⟨hnone, v, _, h⟩ <;> rw [h]
  · exact .addressFault (.refl i s)
  · exact .refused _
  · exact .complete (((State.Framed.refl i s).setMem hm
      (.single (State.fieldIn_of_writeFault hnone).head)).setCC hc _)

/-! ## Floating-point results that leave `cc` -/

theorem fUnderflow_keep (mask : Bool) : (fUnderflow mask .keep .keep).cc = .keep := by
  cases mask <;> rfl

theorem fRange_cc (n : Nat) (pm2 sign : Bool) (c : Int) (f : Nat) : (fRange n pm2 sign c f).cc = .keep := by
  unfold fRange
  split
  · rfl
  · split
    · exact fUnderflow_keep _
    · rfl

theorem fMulLong_cc (g : Nat) (pm2 : Bool) (a b : Nat) : (fMulLong g pm2 a b).cc = .keep := by
  unfold fMulLong
  dsimp only
  split
  · rfl
  · split <;> exact fRange_cc _ _ _ _ _

theorem fMulShort_cc (pm2 : Bool) (a b : Nat) : (fMulShort pm2 a b).cc = .keep := by
  unfold fMulShort
  dsimp only
  split
  · rfl
  · split <;> exact fRange_cc _ _ _ _ _

theorem fDiv_cc (n : Nat) (pm2 : Bool) (a b : Nat) : (fDiv n pm2 a b).cc = .keep := by
  unfold fDiv
  dsimp only
  split
  · rfl
  · split
    · rfl
    · split <;> exact fRange_cc _ _ _ _ _

theorem fHalve_cc (n : Nat) (normalizes pm2 : Bool) (v : Nat) : (fHalve n normalizes pm2 v).cc = .keep := by
  unfold fHalve
  dsimp only
  split
  · split
    · rfl
    · split
      · exact fUnderflow_keep _
      · rfl
  · rfl

/-! ## Instructions with an ending of their own -/

theorem execSsk_ends_framed (r1 r2 : RegNum) : Ends (s.Framed (.ssk r1 r2)) (execSsk r1 r2 s) := by
  unfold execSsk State.privileged
  split
  · next hpriv =>
    unfold State.withBlock
    split
    · exact .addressFault (.refl _ s)
    · next hb => exact .complete (.setKey_self rfl hpriv (by omega) _)
  · exact .suppress (.refl _ s)

theorem execCvb_ends_framed (r1 x2 b2 : RegNum) (d2 : Disp) :
    Ends (s.Framed (.cvb r1 x2 b2 d2)) (execCvb r1 x2 b2 d2 s) := by
  refine .withRead (.refl _ s) fun v => ?_
  cases decParse 8 v with
  | none => exact .suppress (.refl _ s)
  | some d => exact .completeWith ((State.Framed.refl _ s).setGpr rfl _ _)

theorem execStm_ends_framed (r1 r3 b2 : RegNum) (d2 : Disp) :
    Ends (s.Framed (.stm r1 r3 b2 d2)) (execStm r1 r3 b2 d2 s) := by
  unfold execStm
  split
  · exact .addressFault (.refl _ s)
  · split
    · exact .accessTerminated ((State.Framed.refl _ s).freeBytes rfl _ _)
    · next h =>
      exact .complete ((State.Framed.refl _ s).setMem rfl
        (s.rewrites_storeRegisters (State.fieldIn_of_fieldFault h)))

theorem execLm_ends_framed (r1 r3 b2 : RegNum) (d2 : Disp) :
    Ends (s.Framed (.lm r1 r3 b2 d2)) (execLm r1 r3 b2 d2 s) := by
  unfold execLm
  split
  · exact .addressFault (.refl _ s)
  · split
    · exact .accessTerminated ((State.Framed.refl _ s).freeGprs rfl _ _)
    · split
      · exact .refused _
      · next h => exact .complete ((State.Framed.refl _ s).loadRegisters rfl h)

theorem moveFields_ends_framed (hm : mayStore i = true) (n : Nat) (a1 a2 : Addr)
    (f : Option Byte → Byte → Option Byte) : Ends (s.Framed i) (s.moveFields n a1 a2 f) :=
  .withStorage_ok ((State.Framed.refl i s).freeBytes hm _ _) fun _ h =>
    .complete ((State.Framed.refl i s).setMem hm (State.rewrites_combineFields h))

theorem logicFields_ends_framed (hm : mayStore i = true) (hc : mayWriteCC i = true) (n : Nat) (a1 a2 : Addr)
    (f : Byte → Byte → Byte) : Ends (s.Framed i) (s.logicFields n a1 a2 f) :=
  .withStorage_ok (((State.Framed.refl i s).freeBytes hm _ _).freeCC hc) fun _ h =>
    .complete (((State.Framed.refl i s).setMem hm (State.rewrites_combineFields h)).setCC hc _)

section OneLength

variable (l : Byte) (b1 : RegNum) (d1 : Disp) (b2 : RegNum) (d2 : Disp)

theorem execClc_ends_framed : Ends (s.Framed (.clc l b1 d1 b2 d2)) (execClc l b1 d1 b2 d2 s) := by
  unfold execClc
  split
  · exact .accessTerminated ((State.Framed.refl _ s).freeCC rfl)
  · exact .withValue fun _ => .withValue fun _ => .complete ((State.Framed.refl _ s).setCC rfl _)

theorem execTr_ends_framed : Ends (s.Framed (.tr l b1 d1 b2 d2)) (execTr l b1 d1 b2 d2 s) :=
  .withStorage_ok ((State.Framed.refl _ s).freeBytes rfl _ _) fun _ h =>
    .complete ((State.Framed.refl _ s).setMem rfl (State.rewrites_translate h))

theorem execTrt_ends_framed : Ends (s.Framed (.trt l b1 d1 b2 d2)) (execTrt l b1 d1 b2 d2 s) := by
  unfold execTrt
  split
  · exact .terminateBy ((((State.Framed.refl _ s).freeGprLow rfl _ _).freeGprLow rfl _ _).freeCC rfl)
  · exact .complete ((State.Framed.refl _ s).setCC rfl _)
  · exact .complete ((((State.Framed.refl _ s).setGprAddr rfl _ _).setGpr rfl _ _).setCC rfl _)

theorem execEd_ends_framed : Ends (s.Framed (.ed l b1 d1 b2 d2)) (execEd l b1 d1 b2 d2 s) := by
  unfold execEd
  split
  · exact .terminateBy (((State.Framed.refl _ s).freeBytes rfl _ _).freeCC rfl)
  · next h => exact .complete (((State.Framed.refl _ s).setMem rfl (State.rewrites_edit h)).setCC rfl _)

theorem execEdmk_ends_framed : Ends (s.Framed (.edmk l b1 d1 b2 d2)) (execEdmk l b1 d1 b2 d2 s) := by
  unfold execEdmk
  split
  · exact .terminateBy ((((State.Framed.refl _ s).freeBytes rfl _ _).freeGprLow rfl _ _).freeCC rfl)
  · next e h =>
    refine .complete (State.Framed.setCC (State.Framed.setMem ?_ rfl (State.rewrites_edit h)) rfl _)
    cases e.mark with
    | none => exact .refl _ s
    | some a => exact (State.Framed.refl _ s).setGprAddr rfl _ _

end OneLength

/-! ## Decimal instructions -/

theorem moveDecimal_ends_framed (hm : mayStore i = true) {a1 a2 : Addr} {l1 l2 used : Nat} {m : Option Memory}
    (h : ∀ m', FieldIn s.installed a1 (l1 + 1) → m = some m' →
      Memory.Rewrites s.installed s.mem m') :
    Ends (s.Framed i) (s.moveDecimal a1 l1 a2 l2 used m) := by
  refine .withStorage_ok ((State.Framed.refl i s).freeBytes hm _ _) fun m' hok => ?_
  split at hok
  · cases hok
  · next hfault =>
    cases m with
    | none => cases hok
    | some m =>
      cases hok
      exact .complete ((State.Framed.refl i s).setMem hm (h _ (State.fieldIn_of_fieldFault hfault) rfl))

theorem finishDecimal_ends_framed (hm : mayStore i = true) (hc : mayWriteCC i = true) {a : Addr} {n : Nat} {v : Int}
    (h : FieldIn s.installed a n) : Ends (s.Framed i) (s.finishDecimal a n v) :=
  .completeWith (((State.Framed.refl i s).setMem hm (Memory.rewrites_storeValue h)).setCC hc _)

theorem addDecimal_ends_framed (hm : mayStore i = true) (hc : mayWriteCC i = true) (a1 : Addr) (n1 : Nat) (a2 : Addr)
    (n2 : Nat) (op : Int → Int → Int) : Ends (s.Framed i) (s.addDecimal a1 n1 a2 n2 op) :=
  have hfreed := ((State.Framed.refl i s).freeBytes hm a1 n1).freeCC hc
  .withFields_fieldIn hfreed fun h =>
    .withDecimal hfreed fun _ => .withDecimal hfreed fun _ => finishDecimal_ends_framed hm hc h

/-- MP and DP: behind the checks the second operand is the shorter and the first lies in storage. -/
theorem withFactors_ends_framed (hm : mayStore i = true) {l1 l2 : RegNum} {a1 a2 : Addr} {k : Dec → Dec → Result}
    (hk : ∀ v1 v2, decLength l2 < decLength l1 → FieldIn s.installed a1 (decLength l1) →
      Ends (s.Framed i) (k v1 v2)) :
    Ends (s.Framed i) (s.withFactors l1 l2 a1 a2 k) := by
  have hfreed := (State.Framed.refl i s).freeBytes hm a1 (decLength l1)
  unfold State.withFactors State.withLengths
  split
  · exact .addressFault (.refl i s)
  · have hlt : decLength l2 < decLength l1 := by unfold decLength; omega
    exact .withFields_fieldIn hfreed fun h =>
      .withDecimal hfreed fun v1 => .withDecimal hfreed fun v2 => hk v1 v2 hlt h

section TwoLengths

variable (l1 l2 b1 : RegNum) (d1 : Disp) (b2 : RegNum) (d2 : Disp)

theorem execMvo_ends_framed : Ends (s.Framed (.mvo l1 l2 b1 d1 b2 d2)) (execMvo l1 l2 b1 d1 b2 d2 s) := by
  refine moveDecimal_ends_framed rfl fun m' hin h => ?_
  split at h
  · exact .write (hin.leftward 0) (rewrites_moveOffset hin h)
  · cases h

theorem execPack_ends_framed : Ends (s.Framed (.pack l1 l2 b1 d1 b2 d2)) (execPack l1 l2 b1 d1 b2 d2 s) := by
  refine moveDecimal_ends_framed rfl fun m' hin h => ?_
  obtain ⟨m, hswap, hrest⟩ := Option.bind_eq_some_iff.mp h
  exact (rewrites_swapStep hin hswap).trans (rewrites_packBytes hin hrest)

theorem execUnpk_ends_framed : Ends (s.Framed (.unpk l1 l2 b1 d1 b2 d2)) (execUnpk l1 l2 b1 d1 b2 d2 s) := by
  refine moveDecimal_ends_framed rfl fun m' hin h => ?_
  obtain ⟨m, hswap, hrest⟩ := Option.bind_eq_some_iff.mp h
  exact (rewrites_swapStep hin hswap).trans (rewrites_unpackBytes hin hrest)

theorem execZap_ends_framed : Ends (s.Framed (.zap l1 l2 b1 d1 b2 d2)) (execZap l1 l2 b1 d1 b2 d2 s) := by
  have hfreed := ((State.Framed.refl (.zap l1 l2 b1 d1 b2 d2) s).freeBytes rfl (s.eab d1 b1) (decLength l1)).freeCC rfl
  refine .withFields_fieldIn hfreed fun hin => .withDecimal hfreed fun d => ?_
  split
  · exact .completeWith hfreed
  · exact finishDecimal_ends_framed rfl rfl hin

theorem execCp_ends_framed : Ends (s.Framed (.cp l1 l2 b1 d1 b2 d2)) (execCp l1 l2 b1 d1 b2 d2 s) := by
  have hfreed := (State.Framed.refl (.cp l1 l2 b1 d1 b2 d2) s).freeCC rfl
  unfold execCp
  split
  · exact .accessTerminated hfreed
  · exact .withDecimal hfreed fun _ => .withDecimal hfreed fun _ =>
      .complete ((State.Framed.refl _ s).setCC rfl _)

theorem execMp_ends_framed : Ends (s.Framed (.mp l1 l2 b1 d1 b2 d2)) (execMp l1 l2 b1 d1 b2 d2 s) := by
  refine withFactors_ends_framed rfl fun v1 v2 _ hin => ?_
  split
  · exact .complete ((State.Framed.refl _ s).setMem rfl (Memory.rewrites_storeValue hin))
  · exact .terminateBy (stop := .data) ((State.Framed.refl _ s).freeBytes rfl _ _)

/-- The quotient and the remainder of DP lie side by side in the first operand. -/
theorem execDp_ends_framed : Ends (s.Framed (.dp l1 l2 b1 d1 b2 d2)) (execDp l1 l2 b1 d1 b2 d2 s) := by
  refine withFactors_ends_framed rfl fun v1 v2 hlt hin => ?_
  have hquotient : FieldIn s.installed (s.eab d1 b1) (decLength l1 - decLength l2) :=
    fun j hj => hin j (by omega)
  have hremainder := hin.drop (i := decLength l1 - decLength l2) (k := decLength l2) (by omega)
  split
  · exact .suppress (.refl _ s)
  · exact .complete ((State.Framed.refl _ s).setMem rfl
      ((Memory.rewrites_storeValue hquotient).trans (Memory.rewrites_storeValue hremainder)))

end TwoLengths

/-! ## All instructions -/

/-- Every instruction but the branches and EX keeps its frame up to its ending; the cases are grouped by the checks that
come before the ending. -/
theorem exec_ends_framed (i : Instr) (s : State) (hi : mayBranch i = false) : Ends (s.Framed i) (exec i s) := by
  have hs := State.Framed.refl i s
  unfold exec
  cases i with
  | balr | bctr | bcr | bal | bct | bc | bxh | bxle | ex => cases hi
  | svc => exact .suppress hs
  | spm => exact .complete ((hs.setCC rfl _).setPm rfl _)
  | lr | la | srl | sll => exact .complete (hs.setGpr rfl _ _)
  | ltr | sra => exact .complete ((hs.setGpr rfl _ _).setCC rfl _)
  | nr | or | xr => exact finishLogic_ends_framed rfl rfl _ _
  | clr | cr => exact .complete (hs.setCC rfl _)
  | lpr | lnr | lcr | ar | sr | alr | slr | sla => exact finishArith_ends_framed rfl rfl _ _
  | mr | srdl | sldl => exact .withEven hs (.complete (hs.setPair rfl _ _))
  | srda => exact .withEven hs (.complete ((hs.setPair rfl _ _).setCC rfl _))
  | slda => exact .withEven hs (finishArithPair_ends_framed rfl rfl _ _)
  | dr => exact .withEven hs (finishDivide_ends_framed rfl _ _)
  | ssk => exact execSsk_ends_framed _ _
  | isk =>
    exact .privileged hs (.withBlock hs fun _ => .complete ((hs.setGpr rfl _ _).freeGprLow rfl _ _))
  | idl | pc | dig | wrd | rdd | sdv | tdv | hdv | ckc | ssp | lsp => exact .privileged hs (.refused _)
  | lpdr | lndr | ltdr | lcdr => exact .withFregs hs (.complete ((hs.setFpr rfl _ _).setCC rfl _))
  | lper | lner | lter | lcer => exact .withFregs hs (.complete ((hs.setFprShort rfl _ _).setCC rfl _))
  | ldr => exact .withFregs hs (.complete (hs.setFpr rfl _ _))
  | ler => exact .withFregs hs (.complete (hs.setFprShort rfl _ _))
  | cdr | cer => exact .withFregs hs (.complete (hs.setCC rfl _))
  | adr | sdr | awr | swr => exact .withFregs hs (finishLong_ends_framed rfl _ (.inl rfl))
  | aer | ser | aur | sur => exact .withFregs hs (finishShort_ends_framed rfl _ (.inl rfl))
  | hdr => exact .withFregs hs (finishLong_ends_framed rfl _ (.inr (fHalve_cc _ _ _ _)))
  | her => exact .withFregs hs (finishShort_ends_framed rfl _ (.inr (fHalve_cc _ _ _ _)))
  | mdr => exact .withFregs hs (finishLong_ends_framed rfl _ (.inr (fMulLong_cc _ _ _ _)))
  | mer => exact .withFregs hs (finishLong_ends_framed rfl _ (.inr (fMulShort_cc _ _ _)))
  | ddr => exact .withFregs hs (finishLong_ends_framed rfl _ (.inr (fDiv_cc _ _ _ _)))
  | der => exact .withFregs hs (finishShort_ends_framed rfl _ (.inr (fDiv_cc _ _ _ _)))
  | ic | lh | mh | l => exact .withRead hs fun _ => .complete (hs.setGpr rfl _ _)
  | ch | cl | c | tm | cli => exact .withRead hs fun _ => .complete (hs.setCC rfl _)
  | n | o | x => exact .withRead hs fun _ => finishLogic_ends_framed rfl rfl _ _
  | ah | sh | a | s | al | sl => exact .withRead hs fun _ => finishArith_ends_framed rfl rfl _ _
  | m => exact .withEven hs (.withRead hs fun _ => .complete (hs.setPair rfl _ _))
  | d => exact .withEven hs (.withRead hs fun _ => finishDivide_ends_framed rfl _ _)
  | cvb => exact execCvb_ends_framed _ _ _ _
  | sth | stc | cvd | st | mvi => exact withWrite_ends_framed rfl
  | ts | ni | oi | xi => exact withUpdate_ends_framed rfl rfl
  | ld => exact .withFreg hs (.withRead hs fun _ => .complete (hs.setFpr rfl _ _))
  | le => exact .withFreg hs (.withRead hs fun _ => .complete (hs.setFprShort rfl _ _))
  | cd | ce => exact .withFreg hs (.withRead hs fun _ => .complete (hs.setCC rfl _))
  | ad | sd | aw | sw => exact .withFreg hs (.withRead hs fun _ => finishLong_ends_framed rfl _ (.inl rfl))
  | ae | se | au | su => exact .withFreg hs (.withRead hs fun _ => finishShort_ends_framed rfl _ (.inl rfl))
  | md => exact .withFreg hs (.withRead hs fun _ => finishLong_ends_framed rfl _ (.inr (fMulLong_cc _ _ _ _)))
  | me => exact .withFreg hs (.withRead hs fun _ => finishLong_ends_framed rfl _ (.inr (fMulShort_cc _ _ _)))
  | dd => exact .withFreg hs (.withRead hs fun _ => finishLong_ends_framed rfl _ (.inr (fDiv_cc _ _ _ _)))
  | de => exact .withFreg hs (.withRead hs fun _ => finishShort_ends_framed rfl _ (.inr (fDiv_cc _ _ _ _)))
  | std | ste => exact .withFreg hs (withWrite_ends_framed rfl)
  | stm => exact execStm_ends_framed _ _ _ _
  | lm => exact execLm_ends_framed _ _ _ _
  | mvn | mvc | mvz => exact moveFields_ends_framed rfl _ _ _ _
  | nc | oc | xc => exact logicFields_ends_framed rfl rfl _ _ _ _
  | clc => exact execClc_ends_framed _ _ _ _ _
  | tr => exact execTr_ends_framed _ _ _ _ _
  | trt => exact execTrt_ends_framed _ _ _ _ _
  | ed => exact execEd_ends_framed _ _ _ _ _
  | edmk => exact execEdmk_ends_framed _ _ _ _ _
  | mvo => exact execMvo_ends_framed _ _ _ _ _ _
  | pack => exact execPack_ends_framed _ _ _ _ _ _
  | unpk => exact execUnpk_ends_framed _ _ _ _ _ _
  | zap => exact execZap_ends_framed _ _ _ _ _ _
  | cp => exact execCp_ends_framed _ _ _ _ _ _
  | ap | sp => exact addDecimal_ends_framed rfl rfl _ _ _ _ _
  | mp => exact execMp_ends_framed _ _ _ _ _ _
  | dp => exact execDp_ends_framed _ _ _ _ _ _

end Sys2Proof.Machine
end

section
/-! PROOFS. The frame of every instruction but EX, and what every instruction and every step keeps. -/

namespace Sys2Proof.Machine

/-- Every instruction but EX keeps its frame, the branches included. -/
theorem exec_yields_framed (i : Instr) (s : State) (hi : ∀ r x b d, i ≠ .ex r x b d) :
    Yields (s.Framed i) (exec i s) := by
  have hP := s.framed_cycleFree i
  cases hb : mayBranch i with
  | false => exact (exec_ends_framed i s hb).yields hP
  | true =>
    have hs := State.Framed.refl i s
    unfold exec
    cases i with
    | ex r x b d => exact absurd rfl (hi r x b d)
    | balr | bctr | bal | bct | bxh | bxle => exact .branchIf hP (hs.setGpr rfl _ _) _ _
    | bcr | bc => exact .branchIf hP hs _ _
    | _ => cases hb

theorem exec_framed {i : Instr} {s t : State} (h : exec i s = .next t) (hi : ∀ r x b d, i ≠ .ex r x b d) :
    s.Framed i t := exec_yields_framed i s hi t h

theorem exec_yields_kept (i : Instr) (s : State) : Yields s.Kept (exec i s) := by
  have hframed : ∀ j : Instr, (∀ r x b d, j ≠ .ex r x b d) → Yields s.Kept (exec j s) :=
    fun j hj t h => (exec_framed h hj).toKept
  cases i with
  | ex r1 x2 b2 d2 => exact execEx_yields s.kept_cycleFree (.refl s) hframed r1 x2 b2 d2
  | _ => exact hframed _ nofun

theorem State.Kept.of_beginInstr {s u : State} {n : Nat} (h : (s.beginInstr n).Kept u) : s.Kept u :=
  ⟨h.cfg, h.stores, h.keyed⟩

theorem step_kept {s t : State} (h : step s = .next t) : s.Kept t :=
  step_yields s.kept_cycleFree (.refl s) (fun i n u hu => (exec_yields_kept i (s.beginInstr n) u hu).of_beginInstr) t h

theorem State.Kept.keys_of_unauthorized {s t : State} (h : s.Kept t) (hs : s.cfg.privileged = false) :
    t.keys = s.keys := by
  rcases h.keyed with hk | ⟨hpriv, -⟩
  · exact hk
  · exact absurd (hpriv.symm.trans hs) (by decide)

/-- A set of instructions that EX lies on the other side of. -/
theorem ne_ex_of_flag {g : Instr → Bool} {v : Bool} {i : Instr} (hg : ∀ r x b d, g (.ex r x b d) = !v)
    (hi : g i = v) : ∀ r x b d, i ≠ .ex r x b d := by
  rintro r x b d rfl
  rw [hg] at hi
  cases v <;> cases hi

end Sys2Proof.Machine
end

section
/-! PROOFS. The obligations of 10_state. -/

open Sys2Proof.Machine

/-- Settles O11: storage changes by writes below `MEM_SIZE`, keys by one of a block in storage. -/
theorem stepKeepsInvariant : Obligations.StepKeepsInvariant := by
  unfold Obligations.StepKeepsInvariant
  intro s t hs h
  exact (step_kept h).inv hs

/-- Settles O12, from what every step keeps. -/
theorem parametersConstant : Obligations.ParametersConstant := by
  unfold Obligations.ParametersConstant
  intro s t h
  exact (step_kept h).cfg

/-- Settles O14: the frame of the instruction, and for the step that a key is written only with privilege. -/
theorem maskAndKeysKept : Obligations.MaskAndKeysKept := by
  unfold Obligations.MaskAndKeysKept
  refine ⟨fun i s t h hi => ?_, fun i s t h hi => ?_, fun s t h hs => ?_⟩
  · exact (exec_framed h (ne_ex_of_flag (fun _ _ _ _ => rfl) hi)).pm hi
  · exact (exec_framed h (ne_ex_of_flag (fun _ _ _ _ => rfl) hi)).keys hi
  · exact (step_kept h).keys_of_unauthorized hs

/-- Settles O16, from the frame of the instruction. -/
theorem conditionCodeKept : Obligations.ConditionCodeKept := by
  unfold Obligations.ConditionCodeKept
  intro i s t h hi
  exact (exec_framed h (ne_ex_of_flag (fun _ _ _ _ => rfl) hi)).cc hi

/-- Settles O17, from the frame of the instruction. -/
theorem storageAndRegisterFilesKept : Obligations.StorageAndRegisterFilesKept := by
  unfold Obligations.StorageAndRegisterFilesKept
  refine ⟨fun i s t h hi a => ?_, fun i s t h hi => ?_, fun i s t h hi hex => ?_⟩
  · have hmem : t.mem = s.mem := (exec_framed h (ne_ex_of_flag (fun _ _ _ _ => rfl) hi)).mem hi
    rw [State.byteAt, hmem, State.byteAt]
  · exact (exec_framed h (ne_ex_of_flag (fun _ _ _ _ => rfl) hi)).x hi
  · exact (exec_framed h hex).f hi

/-- Settles O9: the reset state lists no byte and has no flag set. -/
theorem resetLaunchValues : Obligations.ResetLaunchValues := by
  unfold Obligations.ResetLaunchValues
  exact ⟨rfl, rfl, fun _ => rfl, rfl, rfl, rfl, rfl, rfl, rfl⟩

/-- Settles O10: the tables of storage and keys are empty after reset, and the default parameters are legal. -/
theorem resetInvariant : Obligations.ResetInvariant := by
  unfold Obligations.ResetInvariant
  decide
end

section
/-! PROOFS. The address checks of the model in the terms of the statements (20_memory R53, R56, R57, R68), and the end
of an instruction that a check suppresses (60_exceptions R428, R435). -/

namespace Sys2Proof.Machine

variable {s : State} {a : Addr} {n : Nat}

theorem State.inStorage_iff_field : s.inStorage a n = true ↔ s.field a n := s.inStorage_iff a n

theorem State.inStorage_eq_false_iff : s.inStorage a n = false ↔ ¬ s.field a n := by
  rw [← State.inStorage_iff_field, Bool.not_eq_true]

theorem State.storeAllowedAt_iff_unprotected : s.storeAllowedAt a = true ↔ s.unprotected a := by
  simp [State.storeAllowedAt, State.unprotected, blockOf, or_assoc]

theorem State.storeAllowed_iff_fieldIn : s.storeAllowed a n = true ↔ FieldIn s.unprotected a n := by
  simp only [State.storeAllowed_iff, State.storeAllowedAt_iff_unprotected]
  rfl

/-- A field can be stored into where it lies in storage and no byte of it is protected. -/
theorem State.openField_iff : s.openField a n ↔ s.inStorage a n = true ∧ s.storeAllowed a n = true := by
  rw [State.inStorage_iff_field, State.storeAllowed_iff_fieldIn]
  rfl

theorem State.bytes_eq_none_iff_not_given : s.mem.bytes a n = none ↔ ¬ s.given a n := by
  simp only [Memory.bytes_eq_none, State.given, not_forall, not_not, exists_prop]
  rfl

theorem State.value_eq_none_iff_not_given : s.mem.value a n = none ↔ ¬ s.given a n := by
  rw [Memory.value, Option.map_eq_none_iff, State.bytes_eq_none_iff_not_given]

/-- A field of one byte has a value where that byte has one. -/
theorem State.given_one_iff : s.given a 1 ↔ s.byteAt a ≠ none := by
  simp [State.given]

theorem State.field_one_of_field (hn : 0 < n) (h : s.field a n) : s.field a 1 :=
  fun i hi => h i (by omega)

/-! ## Which check fails first -/

theorem State.readFault_of_misaligned (h : a.toNat % n ≠ 0) : s.readFault a n = some .specification := if_pos h

theorem State.readFault_of_outside (ha : a.toNat % n = 0) (hf : ¬ s.field a n) :
    s.readFault a n = some .addressing := by
  simp [State.readFault, ha, State.inStorage_eq_false_iff.mpr hf]

theorem State.readFault_of_field (ha : a.toNat % n = 0) (hf : s.field a n) : s.readFault a n = none :=
  (s.readFault_none_iff a n).mpr ⟨ha, State.inStorage_iff_field.mpr hf⟩

theorem State.writeFault_of_readFault {c : AddressCause} (h : s.readFault a n = some c) :
    s.writeFault a n = some c := by
  simp only [State.writeFault, h]

theorem State.writeFault_of_protected (ha : a.toNat % n = 0) (hf : s.field a n) (ho : ¬ s.openField a n) :
    s.writeFault a n = some .protect := by
  have hstore : ¬ s.storeAllowed a n = true :=
    fun h => ho (State.openField_iff.mpr ⟨State.inStorage_iff_field.mpr hf, h⟩)
  simp only [State.writeFault, State.readFault_of_field ha hf, if_neg hstore]

theorem State.writeFault_of_openField (ha : a.toNat % n = 0) (ho : s.openField a n) : s.writeFault a n = none :=
  (s.writeFault_none_iff a n).mpr ⟨ha, State.openField_iff.mp ho⟩

/-! ## A suppressed instruction -/

/-- With nothing pending, the condition an instruction raises is the one that ends the run. -/
theorem State.raise_eq_interrupted (h : s.ifr = 0) (c : Condition) (info : Info) :
    s.raise c info = s.interrupted (c.priority - 1) c info := s.raise_of_idle c info h

theorem State.suppress_eq_suppressed (h : s.ifr = 0) (c : Condition) (info : Info) :
    s.suppress c info = .next (s.suppressed (c.priority - 1) c info) := by
  rw [State.suppress, State.raise_eq_interrupted (s := s.advance) h]
  rfl

theorem State.addressFault_eq_suppressed (h : s.ifr = 0) (cause : AddressCause) :
    s.addressFault cause = .next (s.suppressed 23 .addressError (.address cause)) :=
  State.suppress_eq_suppressed h .addressError _

end Sys2Proof.Machine
end

section
/-! PROOFS. A step after which the run goes on stores only where the running key unlocks the block (20_memory R57):
a condition ends the run, so only completed instructions count, and those have passed their protection check. -/

namespace Sys2Proof.Machine

variable {p : Addr → Prop} {m m' : Memory} {s u : State} {a a2 : Addr} {n n2 : Nat}

/-- A byte at an address that no write may touch is as before. -/
theorem Memory.Rewrites.read_eq (h : Memory.Rewrites p m m') (ha : ¬ p a) : m'.read a = m.read a := by
  induction h with
  | refl => rfl
  | write hb _ ih => rw [ih, Memory.read_write_ne _ _ _ _ (by rintro rfl; exact ha hb)]

/-- Where the result is a state whose run goes on, its storage is that of `s` but for bytes stored into blocks that `s`
may store into. -/
def State.StoresLawfully (s : State) (r : Result) : Prop :=
  Yields (fun t => t.run = .running → Memory.Rewrites s.unprotected s.mem t.mem) r

/-! ## The endings -/

theorem State.StoresLawfully.refused (r : Refusal) : s.StoresLawfully (.refused r) := Yields.refused r

/-- Whatever the state was, a condition ends the run. -/
theorem State.StoresLawfully.raised (u : State) (c : Condition) (info : Info) :
    s.StoresLawfully (.next (u.raise c info)) := by
  rintro t ⟨⟩ hrun
  exact absurd hrun (u.raise_run_ne c info)

theorem State.StoresLawfully.suppress (c : Condition) (info : Info) : s.StoresLawfully (u.suppress c info) :=
  .raised _ c info

theorem State.StoresLawfully.addressFault (cause : AddressCause) : s.StoresLawfully (u.addressFault cause) :=
  .suppress _ _

theorem State.StoresLawfully.suppressBy (stop : Stop) : s.StoresLawfully (u.suppressBy stop) := by
  cases stop with
  | raised c info => exact .raised _ c info
  | noValue => exact .refused _

theorem State.StoresLawfully.terminateBy (stop : Stop) : s.StoresLawfully (terminateBy u stop) := by
  cases stop with
  | raised c info => exact .raised _ c info
  | noValue => exact .refused _

theorem State.StoresLawfully.fetchStopped (stop : Stop) : s.StoresLawfully (u.fetchStopped stop) := by
  cases stop with
  | raised c info => exact .raised _ c info
  | noValue => exact .refused _

theorem State.StoresLawfully.complete (h : Memory.Rewrites s.unprotected s.mem u.mem) :
    s.StoresLawfully u.complete := by
  rintro t ⟨⟩ _
  exact h

theorem State.StoresLawfully.completeWith {c : Option Condition} (h : Memory.Rewrites s.unprotected s.mem u.mem) :
    s.StoresLawfully (u.completeWith c) := by
  cases c with
  | none => exact .complete h
  | some c => exact .raised _ c .none

/-- Settling can only end the run. -/
theorem State.StoresLawfully.settled {r : Result} (h : s.StoresLawfully r) : s.StoresLawfully (settleResult r) := by
  intro t ht hrun
  obtain ⟨u, rfl, rfl⟩ := settleResult_next ht
  rw [State.settle_mem]
  refine h u rfl ?_
  by_contra hended
  exact hended (State.settle_of_not_running hended ▸ hrun)

/-! ## Operands behind their protection check -/

theorem State.unprotected_of_fieldFault (h : s.fieldFault a n a2 n2 true = none) : FieldIn s.unprotected a n := by
  obtain ⟨-, -, hallowed⟩ := (s.fieldFault_none_iff a n a2 n2 true).mp h
  exact State.storeAllowed_iff_fieldIn.mp (hallowed rfl)

theorem State.unprotected_of_writeFault (h : s.writeFault a n = none) : FieldIn s.unprotected a n := by
  obtain ⟨-, -, hallowed⟩ := (s.writeFault_none_iff a n).mp h
  exact State.storeAllowed_iff_fieldIn.mp hallowed

theorem withWrite_storesLawfully {v : Nat} : s.StoresLawfully (s.withWrite a n v fun t => t.complete) := by
  rcases s.withWrite_cases a n v fun t => t.complete with ⟨c, _, h⟩ | ⟨hopen, h⟩ <;> rw [h]
  · exact .addressFault c
  · exact .complete (Memory.rewrites_storeValue (State.unprotected_of_writeFault hopen))

theorem withUpdate_storesLawfully {f : Byte → Byte} {code : Byte → CC} :
    s.StoresLawfully (s.withUpdate a f fun v t => (t.setCC (code v)).complete) := by
  rcases s.withUpdate_cases a f fun v t => (t.setCC (code v)).complete with
    ⟨c, _, h⟩ | ⟨_, _, h⟩ | ⟨hopen, v, _, h⟩ <;> rw [h]
  · exact .addressFault c
  · exact .refused _
  · exact .complete (.single (State.unprotected_of_writeFault hopen).head)

theorem withFreg_storesLawfully {r : RegNum} {k : Result} (hk : s.StoresLawfully k) :
    s.StoresLawfully (s.withFreg r k) := by
  rcases s.withFreg_cases r k with ⟨_, h⟩ | ⟨_, h⟩ <;> rw [h]
  · exact hk
  · exact .addressFault _

theorem withStorage_storesLawfully {r : Except Stop Memory} {k : Memory → Result}
    (hk : ∀ m, r = .ok m → s.StoresLawfully (k m)) : s.StoresLawfully (u.withStorage r k) := by
  rcases u.withStorage_cases r k with ⟨stop, _, h⟩ | ⟨m, hm, h⟩ <;> rw [h]
  · exact .terminateBy stop
  · exact hk m hm

theorem execStm_storesLawfully (r1 r3 b2 : RegNum) (d2 : Disp) : s.StoresLawfully (execStm r1 r3 b2 d2 s) := by
  unfold execStm
  split
  · exact .addressFault _
  · split
    · exact .terminateBy _
    · next hnone => exact .complete (s.rewrites_storeRegisters (State.unprotected_of_fieldFault hnone))

/-! ## One length: moves, logic, translation and edit -/

/-- A field instruction that goes through has passed its checks. -/
theorem State.combineFields_ok {f : Option Byte → Byte → Option Byte} (h : s.combineFields n a a2 f = .ok m) :
    s.fieldFault a n a2 n true = none ∧ combineBytes f n s.mem a a2 = some m := by
  unfold State.combineFields at h
  split at h
  · cases h
  · next hnone =>
    cases hm : combineBytes f n s.mem a a2 with
    | none => rw [hm] at h; cases h
    | some m' => rw [hm] at h; cases h; exact ⟨hnone, rfl⟩

theorem State.rewrites_combineFields_unprotected {f : Option Byte → Byte → Option Byte}
    (h : s.combineFields n a a2 f = .ok m) : Memory.Rewrites s.unprotected s.mem m := by
  obtain ⟨hnone, hm⟩ := State.combineFields_ok h
  exact rewrites_combineBytes (State.unprotected_of_fieldFault hnone) hm

theorem moveFields_storesLawfully (f : Option Byte → Byte → Option Byte) :
    s.StoresLawfully (s.moveFields n a a2 f) :=
  withStorage_storesLawfully fun _ h => .complete (State.rewrites_combineFields_unprotected h)

theorem logicFields_storesLawfully (f : Byte → Byte → Byte) : s.StoresLawfully (s.logicFields n a a2 f) :=
  withStorage_storesLawfully fun _ h => .complete (State.rewrites_combineFields_unprotected h)

/-- A translation that goes through has passed the protection check of its argument field. -/
theorem State.rewrites_translate_unprotected (h : s.translate n a a2 = .ok m) :
    Memory.Rewrites s.unprotected s.mem m := by
  unfold State.translate at h
  split at h
  · cases h
  · split at h
    · cases h
    · next hm =>
      split at h
      · next hopen =>
        cases h
        exact rewrites_translateBytes (State.storeAllowed_iff_fieldIn.mp hopen) hm
      · cases h

theorem execTr_storesLawfully (l : Byte) (b1 : RegNum) (d1 : Disp) (b2 : RegNum) (d2 : Disp) :
    s.StoresLawfully (execTr l b1 d1 b2 d2 s) :=
  withStorage_storesLawfully fun _ h => .complete (State.rewrites_translate_unprotected h)

/-- `e'` comes from `e` by leaving storage or by a store at `a`, which `blocked` records where the byte is protected. -/
inductive Edit.Stored (s : State) (a : Addr) (e e' : Edit) : Prop
  | kept (hm : e'.mem = e.mem) (hb : e'.blocked = e.blocked)
  | wrote (b : Byte) (hm : e'.mem = e.mem.write a b) (hb : e'.blocked = (e.blocked || !s.storeAllowedAt a))

theorem Edit.step_stored {e e' : Edit} (h : e.step s a = .ok e') : Edit.Stored s a e e' := by
  unfold Edit.step at h
  split at h
  · cases h
  · split at h
    · split at h
      · cases h
      · cases h; exact .wrote _ rfl rfl
    · split at h
      · cases h; exact .wrote _ rfl rfl
      · split at h
        · cases h; exact .kept rfl rfl
        · cases h; exact .wrote _ rfl rfl

/-- A step after which nothing is recorded as blocked has stored no protected byte. -/
theorem Edit.Stored.rewrites {e e' : Edit} (h : Edit.Stored s a e e') (hb' : e'.blocked = false) :
    e.blocked = false ∧ Memory.Rewrites s.unprotected e.mem e'.mem := by
  cases h with
  | kept hm hb => exact ⟨hb ▸ hb', hm ▸ .refl _⟩
  | wrote b hm hb =>
    rw [hb, Bool.or_eq_false_iff, Bool.not_eq_false'] at hb'
    obtain ⟨hbefore, hopen⟩ := hb'
    exact ⟨hbefore, hm ▸ .single (State.storeAllowedAt_iff_unprotected.mp hopen)⟩

/-- An edit that goes through ends with nothing recorded as blocked, so no step stored a protected byte. -/
theorem Edit.run_rewrites_unprotected {e e' : Edit} (h : Edit.run s n a e = .ok e') :
    e.blocked = false ∧ Memory.Rewrites s.unprotected e.mem e'.mem := by
  induction n generalizing a e with
  | zero =>
    unfold Edit.run at h
    split at h
    · cases h
    · next hb => cases h; exact ⟨by simpa using hb, .refl _⟩
  | succ n ih =>
    unfold Edit.run at h
    split at h
    · cases h
    · next e1 hstep =>
      obtain ⟨hb1, hrest⟩ := ih h
      obtain ⟨hb, hfirst⟩ := (Edit.step_stored hstep).rewrites hb1
      exact ⟨hb, hfirst.trans hrest⟩

theorem State.rewrites_edit_unprotected {e : Edit} (h : s.edit n a a2 = .ok e) :
    Memory.Rewrites s.unprotected s.mem e.mem := by
  unfold State.edit at h
  split at h
  · cases h
  · split at h
    · cases h
    · exact (Edit.run_rewrites_unprotected h).2

theorem execEd_storesLawfully (l : Byte) (b1 : RegNum) (d1 : Disp) (b2 : RegNum) (d2 : Disp) :
    s.StoresLawfully (execEd l b1 d1 b2 d2 s) := by
  unfold execEd
  split
  · exact .terminateBy _
  · next h => exact .complete (State.rewrites_edit_unprotected h)

theorem execEdmk_storesLawfully (l : Byte) (b1 : RegNum) (d1 : Disp) (b2 : RegNum) (d2 : Disp) :
    s.StoresLawfully (execEdmk l b1 d1 b2 d2 s) := by
  unfold execEdmk
  split
  · exact .terminateBy _
  · next h => exact .complete (State.rewrites_edit_unprotected h)

/-! ## Two lengths: the decimal instructions -/

theorem moveDecimal_storesLawfully {l1 l2 used : Nat} {r : Option Memory}
    (h : ∀ m, FieldIn s.unprotected a (l1 + 1) → r = some m → Memory.Rewrites s.unprotected s.mem m) :
    s.StoresLawfully (s.moveDecimal a l1 a2 l2 used r) := by
  refine withStorage_storesLawfully fun m hok => ?_
  split at hok
  · cases hok
  · next hnone =>
    cases r with
    | none => cases hok
    | some m => cases hok; exact .complete (h _ (State.unprotected_of_fieldFault hnone) rfl)

theorem withFields_storesLawfully {k : Result} (hk : FieldIn s.unprotected a n → s.StoresLawfully k) :
    s.StoresLawfully (s.withFields a n a2 n2 u k) := by
  unfold State.withFields
  split
  · exact .terminateBy _
  · next hnone => exact hk (State.unprotected_of_fieldFault hnone)

theorem withDecimal_storesLawfully {k : Dec → Result} (hk : ∀ d, s.StoresLawfully (k d)) :
    s.StoresLawfully (s.withDecimal a n u k) := by
  rcases s.withDecimal_cases a n u k with ⟨stop, _, h⟩ | ⟨d, _, h⟩ <;> rw [h]
  · exact .terminateBy stop
  · exact hk d

/-- MP and DP: behind the checks the second operand is the shorter and the first may be stored into. -/
theorem withFactors_storesLawfully {l1 l2 : RegNum} {k : Dec → Dec → Result}
    (hk : ∀ v1 v2, decLength l2 < decLength l1 → FieldIn s.unprotected a (decLength l1) →
      s.StoresLawfully (k v1 v2)) :
    s.StoresLawfully (s.withFactors l1 l2 a a2 k) := by
  unfold State.withFactors State.withLengths
  split
  · exact .addressFault _
  · have hlt : decLength l2 < decLength l1 := by unfold decLength; omega
    exact withFields_storesLawfully fun hopen =>
      withDecimal_storesLawfully fun v1 => withDecimal_storesLawfully fun v2 => hk v1 v2 hlt hopen

theorem finishDecimal_storesLawfully {v : Int} (h : FieldIn s.unprotected a n) :
    s.StoresLawfully (s.finishDecimal a n v) :=
  .completeWith (Memory.rewrites_storeValue h)

theorem addDecimal_storesLawfully (op : Int → Int → Int) : s.StoresLawfully (s.addDecimal a n a2 n2 op) :=
  withFields_storesLawfully fun hopen => withDecimal_storesLawfully fun _ => withDecimal_storesLawfully fun _ =>
    finishDecimal_storesLawfully hopen

theorem State.rewrites_freeBytes_unprotected (h : FieldIn s.unprotected a n) :
    Memory.Rewrites s.unprotected s.mem (s.freeBytes a n).mem :=
  State.rewrites_freeBytes fun i hi _ => h i hi

section TwoLengths

variable (l1 l2 b1 : RegNum) (d1 : Disp) (b2 : RegNum) (d2 : Disp)

theorem execMvo_storesLawfully : s.StoresLawfully (execMvo l1 l2 b1 d1 b2 d2 s) := by
  refine moveDecimal_storesLawfully fun m hopen h => ?_
  split at h
  · exact .write (hopen.leftward 0) (rewrites_moveOffset hopen h)
  · cases h

theorem execPack_storesLawfully : s.StoresLawfully (execPack l1 l2 b1 d1 b2 d2 s) := by
  refine moveDecimal_storesLawfully fun m hopen h => ?_
  obtain ⟨_, hswap, hrest⟩ := Option.bind_eq_some_iff.mp h
  exact (rewrites_swapStep hopen hswap).trans (rewrites_packBytes hopen hrest)

theorem execUnpk_storesLawfully : s.StoresLawfully (execUnpk l1 l2 b1 d1 b2 d2 s) := by
  refine moveDecimal_storesLawfully fun m hopen h => ?_
  obtain ⟨_, hswap, hrest⟩ := Option.bind_eq_some_iff.mp h
  exact (rewrites_swapStep hopen hswap).trans (rewrites_unpackBytes hopen hrest)

/-- The overlap that leaves ZAP's result open frees the first operand and goes on, behind the same checks. -/
theorem execZap_storesLawfully : s.StoresLawfully (execZap l1 l2 b1 d1 b2 d2 s) := by
  refine withFields_storesLawfully fun hopen => withDecimal_storesLawfully fun d => ?_
  split
  · exact .completeWith (State.rewrites_freeBytes_unprotected hopen)
  · exact finishDecimal_storesLawfully hopen

theorem execMp_storesLawfully : s.StoresLawfully (execMp l1 l2 b1 d1 b2 d2 s) := by
  refine withFactors_storesLawfully fun v1 v2 _ hopen => ?_
  split
  · exact .complete (Memory.rewrites_storeValue hopen)
  · exact .raised _ _ _

/-- The quotient and the remainder of DP lie side by side in the first operand. -/
theorem execDp_storesLawfully : s.StoresLawfully (execDp l1 l2 b1 d1 b2 d2 s) := by
  refine withFactors_storesLawfully fun v1 v2 hlt hopen => ?_
  have hquotient : FieldIn s.unprotected (s.eab d1 b1) (decLength l1 - decLength l2) :=
    fun j hj => hopen j (by omega)
  have hremainder := hopen.drop (i := decLength l1 - decLength l2) (k := decLength l2) (by omega)
  split
  · exact .suppress _ _
  · exact .complete ((Memory.rewrites_storeValue hquotient).trans (Memory.rewrites_storeValue hremainder))

end TwoLengths

/-! ## All instructions, and the step -/

theorem exec_storesLawfully_of_mayStore (i : Instr) (s : State) (hi : mayStore i = true)
    (hex : ∀ r x b d, i ≠ .ex r x b d) : s.StoresLawfully (exec i s) := by
  unfold exec
  cases i with
  | ex r x b d => exact absurd rfl (hex r x b d)
  | sth | stc | cvd | st | mvi => exact withWrite_storesLawfully
  | ts | ni | oi | xi => exact withUpdate_storesLawfully
  | std | ste => exact withFreg_storesLawfully withWrite_storesLawfully
  | stm => exact execStm_storesLawfully _ _ _ _
  | mvn | mvc | mvz => exact moveFields_storesLawfully _
  | nc | oc | xc => exact logicFields_storesLawfully _
  | tr => exact execTr_storesLawfully _ _ _ _ _
  | ed => exact execEd_storesLawfully _ _ _ _ _
  | edmk => exact execEdmk_storesLawfully _ _ _ _ _
  | mvo => exact execMvo_storesLawfully _ _ _ _ _ _
  | pack => exact execPack_storesLawfully _ _ _ _ _ _
  | unpk => exact execUnpk_storesLawfully _ _ _ _ _ _
  | zap => exact execZap_storesLawfully _ _ _ _ _ _
  | ap | sp => exact addDecimal_storesLawfully _
  | mp => exact execMp_storesLawfully _ _ _ _ _ _
  | dp => exact execDp_storesLawfully _ _ _ _ _ _
  | _ => cases hi

/-- An instruction outside the storing ones leaves storage alone, by its frame. -/
theorem exec_storesLawfully_of_ne_ex (i : Instr) (s : State) (hex : ∀ r x b d, i ≠ .ex r x b d) :
    s.StoresLawfully (exec i s) := by
  cases hi : mayStore i with
  | true => exact exec_storesLawfully_of_mayStore i s hi hex
  | false =>
    intro t ht _
    rw [(exec_framed ht hex).mem hi]
    exact .refl _

theorem execEx_storesLawfully (r1 x2 b2 : RegNum) (d2 : Disp) : s.StoresLawfully (execEx r1 x2 b2 d2 s) := by
  unfold execEx
  split
  · exact .suppressBy _
  · unfold State.runSubject
    split
    · next i _ =>
      rcases execSubject_cases i s with hx | ⟨hi, hx⟩ <;> rw [hx]
      · exact .refused _
      · exact exec_storesLawfully_of_ne_ex i s hi
    · exact .suppress _ _
    · exact .suppress _ _

theorem exec_storesLawfully (i : Instr) (s : State) : s.StoresLawfully (exec i s) := by
  cases i with
  | ex r1 x2 b2 d2 => exact execEx_storesLawfully r1 x2 b2 d2
  | _ => exact exec_storesLawfully_of_ne_ex _ s nofun

theorem step_storesLawfully (s : State) : s.StoresLawfully (step s) := by
  unfold step
  split
  · rintro t ⟨⟩
  · split
    · exact .fetchStopped _
    · next bs _ =>
      split
      · next i _ => exact State.StoresLawfully.settled (exec_storesLawfully i (s.beginInstr bs.length))
      · exact .suppress _ _
      · exact .suppress _ _

end Sys2Proof.Machine
end

section
/-! PROOFS. The instruction fetch case by case (30_encoding R80, R95): the conditions of its address first, then the
bytes without value. -/

namespace Sys2Proof.Machine

variable {s : State} {a : Addr} {op : Byte}

theorem instrLength_pos (op : Byte) : 0 < instrLength op := by
  unfold instrLength
  split
  · decide
  · split <;> decide

theorem State.fetchBytes_of_odd (h : a.toNat % 2 = 1) : s.fetchBytes a = .error (.address .specification) :=
  if_pos (by omega)

theorem State.fetchBytes_of_first_outside (ha : a.toNat % 2 = 0) (hf : ¬ s.field a 1) :
    s.fetchBytes a = .error (.address .addressing) := by
  simp [State.fetchBytes, ha, State.inStorage_eq_false_iff.mpr hf]

theorem State.fetchBytes_of_first_not_given (ha : a.toNat % 2 = 0) (hf : s.field a 1) (hop : s.byteAt a = none) :
    s.fetchBytes a = .error .noValue := by
  simp [State.fetchBytes, ha, State.inStorage_iff_field.mpr hf, hop]

/-- Behind its first byte, a fetch is the reading of as many bytes as that byte asks for. -/
theorem State.fetchBytes_of_first (ha : a.toNat % 2 = 0) (hf : s.field a 1) (hop : s.byteAt a = some op) :
    s.fetchBytes a =
      if s.inStorage a (instrLength op) = false then .error (.address .addressing)
      else givenOr (s.mem.bytes a (instrLength op)) := by
  simp only [State.fetchBytes, ha, State.inStorage_iff_field.mpr hf, hop]
  cases s.mem.bytes a (instrLength op) <;> rfl

theorem State.fetchBytes_of_outside (ha : a.toNat % 2 = 0) (hop : s.byteAt a = some op)
    (hf : ¬ s.field a (instrLength op)) : s.fetchBytes a = .error (.address .addressing) := by
  by_cases hfirst : s.field a 1
  · rw [State.fetchBytes_of_first ha hfirst hop, if_pos (State.inStorage_eq_false_iff.mpr hf)]
  · exact State.fetchBytes_of_first_outside ha hfirst

theorem State.fetchBytes_of_field (ha : a.toNat % 2 = 0) (hop : s.byteAt a = some op)
    (hf : s.field a (instrLength op)) : s.fetchBytes a = givenOr (s.mem.bytes a (instrLength op)) := by
  have hin : ¬ s.inStorage a (instrLength op) = false := fun h => State.inStorage_eq_false_iff.mp h hf
  rw [State.fetchBytes_of_first ha (State.field_one_of_field (instrLength_pos op) hf) hop, if_neg hin]

/-- A fetch that meets no stop gives the instruction's bytes as storage holds them. -/
theorem State.fetchBytes_of_given (ha : a.toNat % 2 = 0) (hop : s.byteAt a = some op)
    (hf : s.field a (instrLength op)) (hg : s.given a (instrLength op)) :
    ∃ bs, s.fetchBytes a = .ok bs ∧ bs.length = instrLength op ∧
      ∀ i < instrLength op, bs[i]? = s.byteAt (a + BitVec.ofNat 24 i) := by
  obtain ⟨bs, hbs⟩ := Option.ne_none_iff_exists'.mp fun h => State.bytes_eq_none_iff_not_given.mp h hg
  obtain ⟨hlen, hbytes⟩ := Memory.bytes_eq_some.mp hbs
  refine ⟨bs, ?_, hlen, fun i hi => (hbytes i hi).symm⟩
  rw [State.fetchBytes_of_field ha hop hf, hbs]
  rfl

theorem State.fetchBytes_of_not_given (ha : a.toNat % 2 = 0) (hop : s.byteAt a = some op)
    (hf : s.field a (instrLength op)) (hg : ¬ s.given a (instrLength op)) :
    s.fetchBytes a = .error .noValue := by
  rw [State.fetchBytes_of_field ha hop hf, State.bytes_eq_none_iff_not_given.mpr hg]
  rfl

/-- The step of a running state whose fetch is stopped. -/
theorem step_of_fetch_stopped {stop : Stop} (hrun : s.run = .running) (hfetch : s.fetchBytes s.pc = .error stop) :
    step s = s.fetchStopped stop := by
  simp only [step, hrun, hfetch]

theorem step_of_fetch_addressError {cause : AddressCause} (hs : s.idle)
    (hfetch : s.fetchBytes s.pc = .error (.address cause)) :
    step s = .next (s.interrupted 23 .addressError (.address cause)) := by
  obtain ⟨hrun, hifr⟩ := hs
  rw [step_of_fetch_stopped hrun hfetch, State.fetchStopped, State.raise_eq_interrupted hifr]
  rfl

end Sys2Proof.Machine
end

section
/-! PROOFS. Every RX and SI instruction with a storage operand goes through one of three operations on it: a fetch, a
store, or the replacement of one byte (20_memory R52, R68). -/

namespace Sys2Proof.Machine

/-- The result begins with the access to the operand; what follows it is any continuation. -/
inductive State.Begins (s : State) : Access → Result → Prop
  | read (a : Addr) (n : Nat) (k : Nat → Result) : s.Begins ⟨a, n, true, false⟩ (s.withRead a n k)
  | write (a : Addr) (n v : Nat) (k : State → Result) : s.Begins ⟨a, n, false, true⟩ (s.withWrite a n v k)
  | update (a : Addr) (f : Byte → Byte) (k : Byte → State → Result) :
    s.Begins ⟨a, 1, true, true⟩ (s.withUpdate a f k)

variable {s : State} {w : Access} {r : Result}

theorem State.Begins.withEven {q : RegNum} (hq : evenRegister q = true) (h : s.Begins w r) :
    s.Begins w (s.withEven q r) := by
  rwa [State.withEven, if_pos (by simpa [evenRegister] using hq)]

theorem State.Begins.withFreg {q : RegNum} (hq : floatRegister q = true) (h : s.Begins w r) :
    s.Begins w (s.withFreg q r) := by
  have hnumber : q = 0 ∨ q = 2 ∨ q = 4 ∨ q = 6 := by simpa [floatRegister, or_assoc] using hq
  rwa [State.withFreg, if_pos (by rcases hnumber with rfl | rfl | rfl | rfl <;> decide)]

/-- With its register numbers in order, an instruction begins with the access to its storage operand. -/
theorem exec_begins (i : Instr) (hwf : i.wellFormed = true) (hw : s.storageOperand i = some w) :
    s.Begins w (exec i s) := by
  unfold exec
  cases i with
  | sth | stc | st | cvd | mvi => cases hw; exact .write ..
  | ic | lh | ch | ah | sh | mh | n | cl | o | x | l | c | a | s | al | sl | cvb | tm | cli => cases hw; exact .read ..
  | ts | ni | oi | xi => cases hw; exact .update ..
  | m | d => cases hw; exact .withEven hwf (.read ..)
  | std | ste => cases hw; exact .withFreg hwf (.write ..)
  | le | ce | ae | se | me | de | au | su | ld | cd | ad | sd | md | dd | aw | sw =>
    cases hw; exact .withFreg hwf (.read ..)
  | _ => cases hw

/-- Why an access is not allowed, if it is not: an operand that is stored into is checked for protection too (R428). -/
def State.accessFault (s : State) (w : Access) : Option AddressCause :=
  if w.stores then s.writeFault w.addr w.width else s.readFault w.addr w.width

theorem State.Begins.of_fault (h : s.Begins w r) {c : AddressCause} (hc : s.accessFault w = some c) :
    r = s.addressFault c := by
  cases h with
  | read a n k =>
    have hfault : s.readFault a n = some c := hc
    simp only [State.withRead, hfault]
  | write a n v k =>
    have hfault : s.writeFault a n = some c := hc
    simp only [State.withWrite, hfault]
  | update a f k =>
    have hfault : s.writeFault a 1 = some c := hc
    simp only [State.withUpdate, hfault]

/-- Behind the check, an operand that is read and holds a byte without value refuses. -/
theorem State.Begins.of_not_given (h : s.Begins w r) (hc : s.accessFault w = none) (hr : w.reads = true)
    (hg : ¬ s.given w.addr w.width) : r = .refused .noValue := by
  cases h with
  | read a n k =>
    have hread : s.readFault a n = none := hc
    have hvalue : s.mem.value a n = none := State.value_eq_none_iff_not_given.mpr hg
    simp only [State.withRead, hread, State.withValue, hvalue]
  | write a n v k => cases hr
  | update a f k =>
    have hwrite : s.writeFault a 1 = none := hc
    have hbyte : s.byteAt a = none := by simpa [State.given_one_iff] using hg
    simp only [State.withUpdate, hwrite, hbyte]

/-! ## Which check fails first -/

theorem State.accessFault_of_readFault {c : AddressCause} (h : s.readFault w.addr w.width = some c) :
    s.accessFault w = some c := by
  unfold State.accessFault
  split
  · exact State.writeFault_of_readFault h
  · exact h

theorem State.accessFault_of_protected (ha : w.addr.toNat % w.width = 0) (hf : s.field w.addr w.width)
    (hs : w.stores = true) (ho : ¬ s.openField w.addr w.width) : s.accessFault w = some .protect := by
  rw [State.accessFault, if_pos hs, State.writeFault_of_protected ha hf ho]

theorem State.accessFault_of_open (ha : w.addr.toNat % w.width = 0) (hf : s.field w.addr w.width)
    (ho : w.stores = true → s.openField w.addr w.width) : s.accessFault w = none := by
  unfold State.accessFault
  split
  · next hs => exact State.writeFault_of_openField ha (ho hs)
  · exact State.readFault_of_field ha hf

end Sys2Proof.Machine
end

section
/-! PROOFS. The obligations of 20_memory. -/

open Sys2Proof Sys2Proof.Machine

/-- Settles O19: a step after which the run goes on has stored only into blocks the running key unlocks. -/
theorem protectedBlocksKept : Obligations.ProtectedBlocksKept := by
  unfold Obligations.ProtectedBlocksKept
  intro s t a h hrun ha
  exact (step_storesLawfully s t h hrun).read_eq ha

/-- Settles O5, from the cases of the instruction fetch and what a step does with a fetch that is stopped. -/
theorem instructionFetch : Obligations.InstructionFetch := by
  unfold Obligations.InstructionFetch
  intro s a n hn
  have hlength : ∀ op, s.byteAt a = some op → n = instrLength op := hn
  refine ⟨fun ha hop hf hg => ?_, fun hidle hpc => ?_⟩
  · obtain ⟨op, hop⟩ := Option.ne_none_iff_exists'.mp hop
    obtain rfl := hlength op hop
    exact State.fetchBytes_of_given ha hop hf hg
  · subst hpc
    have hrun : s.run = .running := hidle.1
    refine ⟨fun ha => ?_, fun ha houtside => ?_, fun ha hf hnot => ?_⟩
    · exact step_of_fetch_addressError hidle (State.fetchBytes_of_odd ha)
    · refine step_of_fetch_addressError hidle ?_
      rcases houtside with hf | ⟨hop, hf⟩
      · exact State.fetchBytes_of_first_outside ha hf
      · obtain ⟨op, hop⟩ := Option.ne_none_iff_exists'.mp hop
        exact State.fetchBytes_of_outside ha hop (hlength op hop ▸ hf)
    · refine step_of_fetch_stopped (stop := .noValue) hrun ?_
      cases hop : s.byteAt s.pc with
      | none => exact State.fetchBytes_of_first_not_given ha hf hop
      | some op =>
        obtain rfl := hlength op hop
        obtain ⟨hfield, hg⟩ : s.field s.pc _ ∧ ¬ s.given s.pc _ := hnot.resolve_left (by simp [hop])
        exact State.fetchBytes_of_not_given ha hop hfield hg

/-- Settles O36: the instruction begins with the access to its operand, whose checks come in the order of R428. -/
theorem operandAddressConditions : Obligations.OperandAddressConditions := by
  unfold Obligations.OperandAddressConditions
  intro s i w hwf hw hifr
  have hbegins := exec_begins i hwf hw
  have hfault {c : AddressCause} (hc : s.accessFault w = some c) :
      exec i s = .next (s.suppressed 23 .addressError (.address c)) := by
    rw [hbegins.of_fault hc, State.addressFault_eq_suppressed hifr]
  refine ⟨fun ha => ?_, fun ha hf => ?_, fun ha hf hs ho => ?_, fun ha hf ho hr hg => ?_⟩
  · exact hfault (State.accessFault_of_readFault (State.readFault_of_misaligned ha))
  · exact hfault (State.accessFault_of_readFault (State.readFault_of_outside ha hf))
  · exact hfault (State.accessFault_of_protected ha hf hs ho)
  · exact hbegins.of_not_given (State.accessFault_of_open ha hf ho) hr hg
end

section
/-! PROOFS. What the decoder makes of an encoding, one rule per format (30_encoding R81 to R86, R91). Each rule takes a
row of the operation code's table, that is which fields of the bytes the decoder hands to which constructor, and gives
the fields back as the encoder was given them. -/

namespace Sys2Proof

/-! ## The fields of a byte -/

@[simp] theorem hiNibble_append (h l : BitVec 4) : hiNibble (h ++ l) = h :=
  BitVec.extractLsb'_append_eq_left

@[simp] theorem loNibble_append (h l : BitVec 4) : loNibble (h ++ l) = l :=
  BitVec.extractLsb'_append_eq_right

/-- A displacement split between the two bytes that hold it (R82 to R86) is whole again. -/
@[simp] theorem dispOf_append (b : RegNum) (d : Disp) :
    dispOf (b ++ d.extractLsb' 8 4) (d.extractLsb' 0 8) = d := by
  rw [dispOf, loNibble_append]
  exact (BitVec.extractLsb'_append_extractLsb'_eq_extractLsb' rfl).trans BitVec.extractLsb'_eq_self

/-! ## One rule per format -/

/-- RR (R81). -/
theorem decode_encRR {op : Byte} {f : RegNum → RegNum → Instr}
    (hrow : ∀ b, decode [op, b] = .instr (f (hiNibble b) (loNibble b))) (r1 r2 : RegNum) :
    decode (encRR op r1 r2) = .instr (f r1 r2) := by
  simp [encRR, hrow]

/-- RX and RS (R82, R83). -/
theorem decode_encRX {op : Byte} {f : RegNum → RegNum → RegNum → Disp → Instr}
    (hrow : ∀ b y z, decode [op, b, y, z] = .instr (f (hiNibble b) (loNibble b) (hiNibble y) (dispOf y z)))
    (r1 x2 b2 : RegNum) (d2 : Disp) : decode (encRX op r1 x2 b2 d2) = .instr (f r1 x2 b2 d2) := by
  simp [encRX, hrow]

/-- A shift (R83): bits 12-15 are not read (R91). The base and the displacement are left as bytes. -/
theorem decode_shift {op : Byte} {f : RegNum → RegNum → Disp → Instr}
    (hrow : ∀ b y z, decode [op, b, y, z] = .instr (f (hiNibble b) (hiNibble y) (dispOf y z)))
    (r1 r3 : RegNum) (y z : Byte) : decode [op, r1 ++ r3, y, z] = .instr (f r1 (hiNibble y) (dispOf y z)) := by
  rw [hrow, hiNibble_append]

theorem decode_shift_congr {op : Byte} {f : RegNum → RegNum → Disp → Instr}
    (hrow : ∀ b y z, decode [op, b, y, z] = .instr (f (hiNibble b) (hiNibble y) (dispOf y z)))
    (r1 r3 r3' : RegNum) (y z : Byte) : decode [op, r1 ++ r3, y, z] = decode [op, r1 ++ r3', y, z] := by
  rw [decode_shift hrow, decode_shift hrow]

theorem decode_encRX_shift {op : Byte} {f : RegNum → RegNum → Disp → Instr}
    (hrow : ∀ b y z, decode [op, b, y, z] = .instr (f (hiNibble b) (hiNibble y) (dispOf y z)))
    (r1 r3 b2 : RegNum) (d2 : Disp) : decode (encRX op r1 r3 b2 d2) = .instr (f r1 b2 d2) := by
  simp [encRX, decode_shift hrow]

/-- SI (R84). -/
theorem decode_encSI {op : Byte} {f : Byte → RegNum → Disp → Instr}
    (hrow : ∀ i y z, decode [op, i, y, z] = .instr (f i (hiNibble y) (dispOf y z)))
    (i2 : Byte) (b1 : RegNum) (d1 : Disp) : decode (encSI op i2 b1 d1) = .instr (f i2 b1 d1) := by
  simp [encSI, hrow]

/-- SI without its second operand (R84): bits 8-15 are not read (R91). -/
theorem decode_encSI_base {op : Byte} {f : RegNum → Disp → Instr}
    (hrow : ∀ i y z, decode [op, i, y, z] = .instr (f (hiNibble y) (dispOf y z)))
    (i2 : Byte) (b1 : RegNum) (d1 : Disp) : decode (encSI op i2 b1 d1) = .instr (f b1 d1) :=
  decode_encSI (f := fun _ => f) hrow i2 b1 d1

/-- SS with one length (R85). -/
theorem decode_encSS {op : Byte} {f : Byte → RegNum → Disp → RegNum → Disp → Instr}
    (hrow : ∀ l y z v w,
      decode [op, l, y, z, v, w] = .instr (f l (hiNibble y) (dispOf y z) (hiNibble v) (dispOf v w)))
    (l : Byte) (b1 : RegNum) (d1 : Disp) (b2 : RegNum) (d2 : Disp) :
    decode (encSS op l b1 d1 b2 d2) = .instr (f l b1 d1 b2 d2) := by
  simp [encSS, hrow]

/-- SS with two lengths (R86), which is SS with one length read as its two halves. -/
theorem decode_encSS2 {op : Byte} {f : RegNum → RegNum → RegNum → Disp → RegNum → Disp → Instr}
    (hrow : ∀ l y z v w, decode [op, l, y, z, v, w] =
      .instr (f (hiNibble l) (loNibble l) (hiNibble y) (dispOf y z) (hiNibble v) (dispOf v w)))
    (l1 l2 b1 : RegNum) (d1 : Disp) (b2 : RegNum) (d2 : Disp) :
    decode (encSS2 op l1 l2 b1 d1 b2 d2) = .instr (f l1 l2 b1 d1 b2 d2) := by
  have h := decode_encSS (f := fun l => f (hiNibble l) (loNibble l)) hrow (l1 ++ l2) b1 d1 b2 d2
  rwa [hiNibble_append, loNibble_append] at h

end Sys2Proof
end

section
/-! PROOFS. The obligations of 30_encoding. -/

open Sys2Proof

/-- Settles O1: the decoder's row for the operation code reads the fields where the format of the instruction has them.
The cases stand together by format; a field the instruction does not use is whatever the encoder puts there. -/
theorem decodeEncodeRoundTrip : Obligations.DecodeEncodeRoundTrip := by
  unfold Obligations.DecodeEncodeRoundTrip
  intro i
  cases i with
  | spm r1 => exact decode_encRR (f := fun r1 _ => .spm r1) (fun _ => rfl) r1 0
  | svc i => rfl
  | idl i2 => rfl
  | balr r1 r2 | bctr r1 r2 | bcr r1 r2 | ssk r1 r2 | isk r1 r2 | lpr r1 r2 | lnr r1 r2 | ltr r1 r2 | lcr r1 r2
  | nr r1 r2 | clr r1 r2 | or r1 r2 | xr r1 r2 | lr r1 r2 | cr r1 r2 | ar r1 r2 | sr r1 r2 | mr r1 r2 | dr r1 r2
  | alr r1 r2 | slr r1 r2 | lpdr r1 r2 | lndr r1 r2 | ltdr r1 r2 | lcdr r1 r2 | hdr r1 r2 | ldr r1 r2 | cdr r1 r2
  | adr r1 r2 | sdr r1 r2 | mdr r1 r2 | ddr r1 r2 | awr r1 r2 | swr r1 r2 | lper r1 r2 | lner r1 r2 | lter r1 r2
  | lcer r1 r2 | her r1 r2 | ler r1 r2 | cer r1 r2 | aer r1 r2 | ser r1 r2 | mer r1 r2 | der r1 r2 | aur r1 r2
  | sur r1 r2 =>
    exact decode_encRR (fun _ => rfl) r1 r2
  | sth r1 x2 b2 d2 | la r1 x2 b2 d2 | stc r1 x2 b2 d2 | ic r1 x2 b2 d2 | ex r1 x2 b2 d2 | bal r1 x2 b2 d2
  | bct r1 x2 b2 d2 | bc r1 x2 b2 d2 | lh r1 x2 b2 d2 | ch r1 x2 b2 d2 | ah r1 x2 b2 d2 | sh r1 x2 b2 d2
  | mh r1 x2 b2 d2 | cvd r1 x2 b2 d2 | cvb r1 x2 b2 d2 | st r1 x2 b2 d2 | n r1 x2 b2 d2 | cl r1 x2 b2 d2
  | o r1 x2 b2 d2 | x r1 x2 b2 d2 | l r1 x2 b2 d2 | c r1 x2 b2 d2 | a r1 x2 b2 d2 | s r1 x2 b2 d2 | m r1 x2 b2 d2
  | d r1 x2 b2 d2 | al r1 x2 b2 d2 | sl r1 x2 b2 d2 | std r1 x2 b2 d2 | ld r1 x2 b2 d2 | cd r1 x2 b2 d2
  | ad r1 x2 b2 d2 | sd r1 x2 b2 d2 | md r1 x2 b2 d2 | dd r1 x2 b2 d2 | aw r1 x2 b2 d2 | sw r1 x2 b2 d2
  | ste r1 x2 b2 d2 | le r1 x2 b2 d2 | ce r1 x2 b2 d2 | ae r1 x2 b2 d2 | se r1 x2 b2 d2 | me r1 x2 b2 d2
  | de r1 x2 b2 d2 | au r1 x2 b2 d2 | su r1 x2 b2 d2 =>
    exact decode_encRX (fun _ _ _ => rfl) r1 x2 b2 d2
  | bxh r1 r3 b2 d2 | bxle r1 r3 b2 d2 | stm r1 r3 b2 d2 | lm r1 r3 b2 d2 =>
    exact decode_encRX (fun _ _ _ => rfl) r1 r3 b2 d2
  | srl r1 b2 d2 | sll r1 b2 d2 | sra r1 b2 d2 | sla r1 b2 d2 | srdl r1 b2 d2 | sldl r1 b2 d2 | srda r1 b2 d2
  | slda r1 b2 d2 =>
    exact decode_encRX_shift (fun _ _ _ => rfl) r1 0 b2 d2
  | pc i2 b1 d1 | dig i2 b1 d1 | wrd i2 b1 d1 | rdd i2 b1 d1 | tm i2 b1 d1 | mvi i2 b1 d1 | ni i2 b1 d1
  | cli i2 b1 d1 | oi i2 b1 d1 | xi i2 b1 d1 =>
    exact decode_encSI (fun _ _ _ => rfl) i2 b1 d1
  | ts b1 d1 | sdv b1 d1 | tdv b1 d1 | hdv b1 d1 | ckc b1 d1 =>
    exact decode_encSI_base (fun _ _ _ => rfl) 0 b1 d1
  | ssp l b1 d1 b2 d2 | mvn l b1 d1 b2 d2 | mvc l b1 d1 b2 d2 | mvz l b1 d1 b2 d2 | nc l b1 d1 b2 d2
  | clc l b1 d1 b2 d2 | oc l b1 d1 b2 d2 | xc l b1 d1 b2 d2 | lsp l b1 d1 b2 d2 | tr l b1 d1 b2 d2
  | trt l b1 d1 b2 d2 | ed l b1 d1 b2 d2 | edmk l b1 d1 b2 d2 =>
    exact decode_encSS (fun _ _ _ _ _ => rfl) l b1 d1 b2 d2
  | mvo l1 l2 b1 d1 b2 d2 | pack l1 l2 b1 d1 b2 d2 | unpk l1 l2 b1 d1 b2 d2 | zap l1 l2 b1 d1 b2 d2
  | cp l1 l2 b1 d1 b2 d2 | ap l1 l2 b1 d1 b2 d2 | sp l1 l2 b1 d1 b2 d2 | mp l1 l2 b1 d1 b2 d2
  | dp l1 l2 b1 d1 b2 d2 =>
    exact decode_encSS2 (fun _ _ _ _ _ => rfl) l1 l2 b1 d1 b2 d2

/-- Settles O2. R2 of SPM and bits 12-15 of a shift are half a byte of which the decoder reads the other half; the
other fields are whole bytes that do not occur in what their rows give. -/
theorem unusedFieldsIgnored : Obligations.UnusedFieldsIgnored := by
  unfold Obligations.UnusedFieldsIgnored
  refine ⟨fun r1 r2 => ?spm, fun r1 r3 y z => ?shifts, fun i2 y z => ?wholeBytes⟩
  case spm => exact decode_encRR (f := fun r1 _ => .spm r1) (fun _ => rfl) r1 r2
  case shifts =>
    and_intros <;> exact decode_shift_congr (fun _ _ _ => rfl) r1 r3 0 y z
  case wholeBytes => and_intros <;> rfl

/-- Settles O3: the words and the 256 codes are closed terms, which the decoder evaluates. -/
theorem writtenWordsDecode : Obligations.WrittenWordsDecode := by
  unfold Obligations.WrittenWordsDecode
  and_intros <;> decide
end

section
/-! PROOFS. A storage operand that is readable, as the statements read it (20_memory R51, R53, R56, R68). -/

namespace Sys2Proof.Machine

/-- A concatenation as a number: the right part counts below the left one. -/
theorem toNat_append_eq_add {v w : Nat} (x : BitVec v) (y : BitVec w) :
    (x ++ y).toNat = x.toNat * 2 ^ w + y.toNat := by
  rw [BitVec.toNat_append, ← Nat.shiftLeft_add_eq_or_of_lt y.isLt, Nat.shiftLeft_eq]

variable {s : State} {a : Addr} {n : Nat}

theorem State.read_of_ne_none (h : s.byteAt a ≠ none) : s.mem.read a = some (s.byteVal a) := by
  obtain ⟨b, hb⟩ := Option.ne_none_iff_exists'.mp h
  rw [State.byteVal, hb]
  exact hb

/-- The bytes of a field of which each byte has a value. -/
theorem State.bytes_of_given (h : s.given a n) :
    s.mem.bytes a n = some ((List.range n).map fun i => s.byteVal (a + BitVec.ofNat 24 i)) := by
  refine Memory.bytes_eq_some.mpr ⟨by simp, fun i hi => ?_⟩
  rw [List.getElem?_map, List.getElem?_range hi]
  exact State.read_of_ne_none (h i hi)

theorem State.value_byte (h : s.given a 1) : s.mem.value a 1 = some (s.byteVal a).toNat := by
  simp [Memory.value, State.bytes_of_given h, natOfBytes]

theorem State.value_half (h : s.given a 2) : s.mem.value a 2 = some (s.halfAt a).toNat := by
  have hhalf : (s.halfAt a).toNat = _ := toNat_append_eq_add (s.byteVal a) (s.byteVal (a + 1))
  simp [Memory.value, State.bytes_of_given h, natOfBytes, List.range_succ, hhalf, Nat.mul_comm]

theorem State.value_word (h : s.given a 4) : s.mem.value a 4 = some (s.wordAt a).toNat := by
  have hword : (s.wordAt a).toNat = _ :=
    toNat_append_eq_add (s.byteVal a ++ s.byteVal (a + 1) ++ s.byteVal (a + 2)) (s.byteVal (a + 3))
  rw [toNat_append_eq_add, toNat_append_eq_add] at hword
  simp [Memory.value, State.bytes_of_given h, natOfBytes, List.range_succ, hword, Nat.mul_comm]

theorem State.given_of_readable (h : s.readable a n) : s.given a n := by
  obtain ⟨-, -, hgiven⟩ := h
  exact hgiven

/-- Reading a readable operand goes on with its value. -/
theorem State.withRead_of_readable {v : Nat} (h : s.readable a n) (hv : s.mem.value a n = some v)
    (k : Nat → Result) : s.withRead a n k = k v := by
  obtain ⟨halign, hfield, -⟩ := h
  simp only [State.withRead, State.readFault_of_field halign hfield, State.withValue, hv]

theorem State.withRead_byte (h : s.readable a 1) (k : Nat → Result) :
    s.withRead a 1 k = k (s.byteVal a).toNat :=
  State.withRead_of_readable h (State.value_byte (State.given_of_readable h)) k

variable {d : Disp} {x b : RegNum} {v : Word}

theorem State.withRead_word (h : s.wordOperand d x b v) (k : Word → Result) :
    s.withRead (s.ea d x b) 4 (fun n => k (BitVec.ofNat 32 n)) = k v := by
  obtain ⟨hread, rfl⟩ := h
  rw [State.withRead_of_readable hread (State.value_word (State.given_of_readable hread)), BitVec.ofNat_toNat,
    BitVec.setWidth_eq]

theorem State.withRead_half (h : s.halfOperand d x b v) (k : Word → Result) :
    s.withRead (s.ea d x b) 2 (fun n => k (sext16 n)) = k v := by
  obtain ⟨hread, rfl⟩ := h
  rw [State.withRead_of_readable hread (State.value_half (State.given_of_readable hread)), sext16,
    BitVec.ofNat_toNat, BitVec.setWidth_eq]

/-! ## One operation in several forms -/

variable {i : Instr} {f : Word → Result} {rr : RegNum → Instr} {rx rh : RegNum → RegNum → Disp → Instr}

/-- An instruction that does `f` with its second operand, in a register or a word of storage. -/
theorem exec_of_operand
    (hi : (∃ r2, i = rr r2 ∧ v = s.gpr r2) ∨ (∃ x2 b2 d2, i = rx x2 b2 d2 ∧ s.wordOperand d2 x2 b2 v))
    (hrr : ∀ r2, exec (rr r2) s = f (s.gpr r2))
    (hrx : ∀ x2 b2 d2, exec (rx x2 b2 d2) s = s.withRead (s.ea d2 x2 b2) 4 fun n => f (BitVec.ofNat 32 n)) :
    exec i s = f v := by
  rcases hi with ⟨r2, rfl, rfl⟩ | ⟨x2, b2, d2, rfl, hv⟩
  · exact hrr r2
  · rw [hrx, State.withRead_word hv]

/-- The same for an operation that has a half word form too. -/
theorem exec_of_operand_or_half
    (hi : (∃ r2, i = rr r2 ∧ v = s.gpr r2) ∨ (∃ x2 b2 d2, i = rx x2 b2 d2 ∧ s.wordOperand d2 x2 b2 v) ∨
      (∃ x2 b2 d2, i = rh x2 b2 d2 ∧ s.halfOperand d2 x2 b2 v))
    (hrr : ∀ r2, exec (rr r2) s = f (s.gpr r2))
    (hrx : ∀ x2 b2 d2, exec (rx x2 b2 d2) s = s.withRead (s.ea d2 x2 b2) 4 fun n => f (BitVec.ofNat 32 n))
    (hrh : ∀ x2 b2 d2, exec (rh x2 b2 d2) s = s.withRead (s.ea d2 x2 b2) 2 fun n => f (sext16 n)) :
    exec i s = f v := by
  rcases or_assoc.mpr hi with hword | ⟨x2, b2, d2, rfl, hv⟩
  · exact exec_of_operand hword hrr hrx
  · rw [hrh, State.withRead_half hv]

end Sys2Proof.Machine
end

section
/-! PROOFS. The integer laws of the model in bit-vector terms (40_rr_general R121 to R126, R129, 10_state R25). -/

namespace Sys2Proof.Machine

variable {w : Nat} (a b v : Word)

/-! ## Codes -/

/-- The code of a signed result: its sign (R121). -/
theorem ccSign_eq (v : BitVec w) : ccSign v = if v = 0 then 0 else if v.msb then 1 else 2 := by
  simp [ccSign, ccOfInt, BitVec.msb_eq_toInt, ← BitVec.toInt_inj]

theorem ccOfInt_neg (t : Int) : ccOfInt (-t) = if t = 0 then 0 else if t < 0 then 2 else 1 := by
  grind [ccOfInt]

theorem ccOfInt_natAbs (t : Int) : ccOfInt t.natAbs = if t = 0 then 0 else 2 := by
  grind [ccOfInt]

theorem ccOfInt_neg_natAbs (t : Int) : ccOfInt (-t.natAbs) = if t = 0 then 0 else 1 := by
  grind [ccOfInt]

/-- The signed order is the order of the exact values (R124). -/
theorem compareSigned_eq : compareSigned a b = if a = b then 0 else if a.slt b then 1 else 2 := by
  simp [compareSigned, compareInt, BitVec.toInt_inj, BitVec.slt_iff_toInt_lt]

theorem compareLogical_eq (a b : BitVec w) :
    compareLogical a.toNat b.toNat = if a = b then 0 else if a.ult b then 1 else 2 := by
  simp [compareLogical, compareInt, BitVec.toNat_inj, BitVec.ult_iff_lt, BitVec.lt_def]

/-- All selected bits are ones exactly when no selected bit is a zero (R326). -/
theorem and_eq_mask_iff (v m : BitVec w) : v &&& m = m ↔ ~~~v &&& m = 0 := by
  simp only [BitVec.eq_of_getElem_eq_iff, BitVec.getElem_and, BitVec.getElem_not]
  refine forall₂_congr fun i hi => ?_
  have hzero : (0 : BitVec w)[i] = false := by simp
  rw [hzero]
  cases v[i] <;> cases m[i] <;> decide

/-- The mask bit that the code selects is bit `cc` from the left (R129). -/
theorem condTrue_eq : ∀ (m : RegNum) (cc : CC), condTrue m cc = m.getLsbD (3 - cc.toNat) := by decide

/-- The odd register of the pair that `r` is in (R315). -/
theorem or_one_eq : ∀ r : RegNum, r ||| 1 = if r.toNat % 2 = 0 then r + 1 else r := by decide

/-- The four parts of a link word side by side (R25). -/
theorem State.linkWord_eq (s : State) : s.linkWord =
    BitVec.ofNat 32 (s.ilc.toNat * 2 ^ 30 + s.cc.toNat * 2 ^ 28 + s.pm.toNat * 2 ^ 24 + s.next.toNat) := by
  have hlink : s.linkWord.toNat = _ := toNat_append_eq_add (s.ilc ++ s.cc ++ s.pm) s.next
  rw [toNat_append_eq_add, toNat_append_eq_add] at hlink
  have hweights : ((s.ilc.toNat * 2 ^ 2 + s.cc.toNat) * 2 ^ 4 + s.pm.toNat) * 2 ^ 24 + s.next.toNat =
      s.ilc.toNat * 2 ^ 30 + s.cc.toNat * 2 ^ 28 + s.pm.toNat * 2 ^ 24 + s.next.toNat := by omega
  rw [← hweights, ← hlink, BitVec.ofNat_toNat, BitVec.setWidth_eq]

/-! ## Signed results -/

theorem fitsSigned_iff {t : Int} : fitsSigned w t = true ↔ -(2 ^ (w - 1) : Int) ≤ t ∧ t < (2 ^ (w - 1) : Int) := by
  simp [fitsSigned]

/-- An exact result that is the value of a word is that word, without overflow. -/
theorem signedResult_toInt (v : BitVec w) : signedResult w v.toInt = ⟨v, ccSign v, false⟩ := by
  have hfits : fitsSigned w v.toInt = true := fitsSigned_iff.mpr ⟨v.le_toInt, v.toInt_lt⟩
  simp [signedResult, hfits]

/-- A narrowed result has code 3 where it overflows, else its sign (R122). -/
theorem signedResult_eq {t : Int} {v : BitVec w} {o : Bool} (hvalue : BitVec.ofInt w t = v)
    (hfits : fitsSigned w t = !o) : signedResult w t = ⟨v, if o then 3 else ccSign v, o⟩ := by
  rw [signedResult, hvalue, hfits]
  cases o <;> rfl

theorem fitsSigned_eq_not {t : Int} :
    fitsSigned w t = !(decide (t ≥ 2 ^ (w - 1)) || decide (t < -2 ^ (w - 1))) := by
  rw [Bool.eq_iff_iff, fitsSigned_iff]
  simp only [Bool.not_eq_true', Bool.or_eq_false_iff, decide_eq_false_iff_not]
  omega

theorem addSigned_eq : addSigned a b =
    ⟨a + b, if a.saddOverflow b then 3 else ccSign (a + b), a.saddOverflow b⟩ :=
  signedResult_eq (by rw [BitVec.ofInt_add, BitVec.ofInt_toInt, BitVec.ofInt_toInt]) fitsSigned_eq_not

theorem subSigned_eq : subSigned a b =
    ⟨a - b, if a.ssubOverflow b then 3 else ccSign (a - b), a.ssubOverflow b⟩ := by
  refine signedResult_eq ?_ fitsSigned_eq_not
  rw [Int.sub_eq_add_neg, BitVec.ofInt_add, BitVec.ofInt_neg, BitVec.ofInt_toInt, BitVec.ofInt_toInt,
    BitVec.sub_eq_add_neg]

/-! ## Load Complement, Load Positive, Load Negative -/

variable {v}

theorem toInt_eq_zero_iff (v : BitVec w) : v.toInt = 0 ↔ v = 0 := by
  rw [← BitVec.toInt_inj, BitVec.ofNat_eq_ofNat, BitVec.toInt_zero]

theorem loadComplement_eq (h : v ≠ 0x80000000#32) :
    loadComplement v = ⟨-v, if v = 0 then 0 else if v.msb then 2 else 1, false⟩ := by
  have hneg : (-v).toInt = -v.toInt := BitVec.toInt_neg_of_ne_intMin h
  rw [loadComplement, ← hneg, signedResult_toInt, ccSign, hneg, ccOfInt_neg]
  simp [toInt_eq_zero_iff, BitVec.msb_eq_toInt]

theorem loadPositive_eq (h : v ≠ 0x80000000#32) :
    loadPositive v = ⟨if v.msb then -v else v, if v = 0 then 0 else 2, false⟩ := by
  have hneg : (-v).toInt = -v.toInt := BitVec.toInt_neg_of_ne_intMin h
  have habs : (if v.msb then -v else v).toInt = (v.toInt.natAbs : Int) := by
    rw [BitVec.msb_eq_toInt, apply_ite BitVec.toInt, hneg]
    simp only [decide_eq_true_eq]
    omega
  rw [loadPositive, ← habs, signedResult_toInt, ccSign, habs, ccOfInt_natAbs]
  simp [toInt_eq_zero_iff]

theorem loadNegative_eq : loadNegative v = ⟨if v.msb then v else -v, if v = 0 then 0 else 1, false⟩ := by
  have habs : (if v.msb then v else -v).toInt = -(v.toInt.natAbs : Int) := by
    rcases lt_or_ge v.toInt 0 with hv | hv
    · have hsign : v.msb = true := by simpa [BitVec.msb_eq_toInt] using hv
      rw [if_pos hsign]
      omega
    · have hsign : ¬ v.msb = true := by simpa [BitVec.msb_eq_toInt] using hv
      have hmost : v ≠ 0x80000000#32 := by rintro rfl; exact absurd hv (by decide)
      rw [if_neg hsign, BitVec.toInt_neg_of_ne_intMin hmost]
      omega
  rw [loadNegative, ← habs, signedResult_toInt, ccSign, habs, ccOfInt_neg_natAbs]
  simp [toInt_eq_zero_iff]

/-! ## Logical sums -/

theorem ccLogicalSum_eq (t : Nat) (ht : t < 2 ^ 33) : ccLogicalSum t =
    if t < 2 ^ 32 then (if BitVec.ofNat 32 t = 0 then 0 else 1) else if BitVec.ofNat 32 t = 0 then 2 else 3 := by
  have hzero : BitVec.ofNat 32 t = 0 ↔ t % 2 ^ 32 = 0 := by
    rw [← BitVec.toNat_inj, BitVec.toNat_ofNat]; rfl
  simp only [ccLogicalSum, hzero]
  split_ifs <;> grind

theorem addLogical_eq : addLogical a b =
    ⟨a + b, if a.toNat + b.toNat < 2 ^ 32 then (if a + b = 0 then 0 else 1) else (if a + b = 0 then 2 else 3),
      false⟩ := by
  rw [addLogical, ccLogicalSum_eq _ (by omega), BitVec.ofNat_add, BitVec.ofNat_toNat, BitVec.ofNat_toNat,
    BitVec.setWidth_eq, BitVec.setWidth_eq]

/-- A difference is a sum with the two's complement, which carries unless it borrows, and then is not zero (R123). -/
theorem subLogical_eq : subLogical a b = ⟨a - b, if a.toNat < b.toNat then 1 else if a = b then 2 else 3, false⟩ := by
  have hvalue : BitVec.ofNat 32 (a.toNat + (2 ^ 32 - 1 - b.toNat) + 1) = a - b := by
    apply BitVec.eq_of_toNat_eq
    rw [BitVec.toNat_ofNat, BitVec.toNat_sub]
    omega
  have hzero : a - b = 0 ↔ a = b := sub_eq_zero
  have hborrow : a.toNat + (2 ^ 32 - 1 - b.toNat) + 1 < 2 ^ 32 ↔ a.toNat < b.toNat := by omega
  rw [subLogical, ccLogicalSum_eq _ (by omega), hvalue]
  simp only [hzero, hborrow]
  rcases eq_or_ne a b with rfl | hne
  · simp
  · simp [hne]

/-! ## Products and quotients -/

theorem mulSigned_eq : mulSigned a b = a.signExtend 64 * b.signExtend 64 := BitVec.ofInt_mul _ _

theorem ofInt_mul_toInt : BitVec.ofInt 32 (a.toInt * b.toInt) = a * b := by
  rw [BitVec.ofInt_mul, BitVec.ofInt_toInt, BitVec.ofInt_toInt]

theorem divSigned_of_fits {n : DWord} {d : Word} (hd : d ≠ 0) (hlow : -2 ^ 31 ≤ n.toInt.tdiv d.toInt)
    (hhigh : n.toInt.tdiv d.toInt < 2 ^ 31) :
    divSigned n d = some (BitVec.ofInt 32 (n.toInt.tdiv d.toInt), BitVec.ofInt 32 (n.toInt.tmod d.toInt)) := by
  have hdivisor : d.toInt ≠ 0 := by simpa [← BitVec.toInt_inj] using hd
  have hfits : fitsSigned 32 (n.toInt.tdiv d.toInt) = true := fitsSigned_iff.mpr ⟨hlow, hhigh⟩
  rw [divSigned, if_neg hdivisor, if_pos hfits, Int.tmod_def, Int.mul_comm d.toInt]

theorem divSigned_of_error {n : DWord} {d : Word}
    (h : d = 0 ∨ n.toInt.tdiv d.toInt < -2 ^ 31 ∨ 2 ^ 31 ≤ n.toInt.tdiv d.toInt) : divSigned n d = none := by
  unfold divSigned
  split
  · rfl
  · next hdivisor =>
    have hd : d ≠ 0 := by rintro rfl; exact hdivisor rfl
    refine if_neg fun hfits => ?_
    obtain ⟨hlow, hhigh⟩ := fitsSigned_iff.mp hfits
    rcases h.resolve_left hd with h | h <;> omega

end Sys2Proof.Machine
end

section
/-! PROOFS. The endings of the fixed-point instructions and the branches, as the statements write the next state
(00_scope R12, 40_rr_general R122, R127, R128, R150). -/

namespace Sys2Proof.Machine

variable (s : State) (r : RegNum)

/-! ## Completed results -/

/-- Completed with a fixed-point result that is no overflow. -/
theorem finishArith_of_fits (v : Word) (c : CC) :
    s.finishArith r ⟨v, c, false⟩ = .next { s with x := s.withGpr r v, cc := c, pc := s.next } := rfl

/-- The condition of an overflow has the mask bit `pm{0}` (R122). -/
theorem overflow_masked (c : Condition) : s.masked 0 true c = if s.pm.getLsbD 3 then some c else none := rfl

/-- An overflow whose mask bit `pm{0}` is 0 completes. -/
theorem finishArith_of_masked (v : Word) (c : CC) (hmask : s.pm.getLsbD 3 = false) :
    s.finishArith r ⟨v, c, true⟩ = .next { s with x := s.withGpr r v, cc := c, pc := s.next } := by
  have hnone : s.masked 0 true .fixedPointOverflow = none := by rw [overflow_masked, hmask]; rfl
  rw [State.finishArith, hnone]
  rfl

/-- An overflow whose mask bit `pm{0}` is 1 completes, and the condition is then taken. -/
theorem finishArith_of_unmasked (v : Word) (c : CC) (hmask : s.pm.getLsbD 3 = true) (hifr : s.ifr = 0) :
    s.finishArith r ⟨v, c, true⟩ =
      .next ({ s with x := s.withGpr r v, cc := c, pc := s.next }.interrupted 30 .fixedPointOverflow .none) := by
  have hsome : s.masked 0 true .fixedPointOverflow = some .fixedPointOverflow := by
    rw [overflow_masked, hmask]; rfl
  rw [State.finishArith, hsome]
  exact State.suppress_eq_suppressed (s := (s.setGpr r v).setCC c) hifr .fixedPointOverflow .none

/-- How a sum or difference ends, by its overflow `o` and the mask bit (R122). -/
theorem finishArith_signed {a : Arith 32} {v : Word} {o : Bool} (ha : a = ⟨v, if o then 3 else ccSign v, o⟩) :
    (o = false → s.finishArith r a = .next { s with
      x := s.withGpr r v, cc := if v = 0 then 0 else if v.msb then 1 else 2, pc := s.next }) ∧
    (o = true → s.pm.getLsbD 3 = false →
      s.finishArith r a = .next { s with x := s.withGpr r v, cc := 3, pc := s.next }) ∧
    (o = true → s.pm.getLsbD 3 = true → s.ifr = 0 →
      s.finishArith r a =
        .next ({ s with x := s.withGpr r v, cc := 3, pc := s.next }.interrupted 30 .fixedPointOverflow .none)) := by
  subst ha
  refine ⟨?_, ?_, ?_⟩ <;> rintro rfl
  · rw [← ccSign_eq]; exact finishArith_of_fits s r v _
  · exact finishArith_of_masked s r v 3
  · exact finishArith_of_unmasked s r v 3

theorem finishDivide_of_some (q rem : Word) :
    s.finishDivide r (some (q, rem)) = .next { s with x := s.withPair r (rem ++ q), pc := s.next } := by
  rw [State.withPair, BitVec.extractLsb'_append_eq_left, BitVec.extractLsb'_append_eq_right]
  rfl

/-- Control goes to the target or on to `next`. -/
theorem State.branchIf_eq (taken : Bool) (t : Addr) :
    s.branchIf taken t = .next { s with pc := if taken then t else s.next } := by
  cases taken <;> rfl

theorem branchIf_setGpr (v : Word) (taken : Bool) (t : Addr) :
    (s.setGpr r v).branchIf taken t = .next { s with x := s.withGpr r v, pc := if taken then t else s.next } :=
  (s.setGpr r v).branchIf_eq taken t

end Sys2Proof.Machine
end

section
/-! PROOFS. What follows from a register number or a length that breaks its rule (60_exceptions R428 (5)), and the
instructions of the storage keys (40_rr_general R134, R135). -/

namespace Sys2Proof.Machine

/-! ## Register rules -/

variable {s : State} {r : RegNum}

theorem State.withEven_of_even (h : r.toNat % 2 = 0) (k : Result) : s.withEven r k = k := if_pos h

theorem State.withEven_of_ill_formed (h : evenRegister r = false) (k : Result) :
    s.withEven r k = s.addressFault .specification := if_neg (by simpa [evenRegister] using h)

/-- The model's check of a floating-point register number is the well-formedness rule (R181). -/
theorem floatRegister_iff : ∀ r : RegNum, floatRegister r = true ↔ r.toNat % 2 = 0 ∧ r.toNat < 8 := by decide

theorem State.withFreg_of_ill_formed (h : floatRegister r = false) (k : Result) :
    s.withFreg r k = s.addressFault .specification :=
  if_neg (by rw [← floatRegister_iff, h]; decide)

theorem State.withFregs_of_ill_formed {r1 r2 : RegNum} (h : (floatRegister r1 && floatRegister r2) = false)
    (k : Result) : s.withFregs r1 r2 k = s.addressFault .specification := by
  rw [State.withFregs]
  cases h1 : floatRegister r1 with
  | false => exact State.withFreg_of_ill_formed h1 _
  | true =>
    have h2 : floatRegister r2 = false := by simpa [h1] using h
    rw [State.withFreg, if_pos ((floatRegister_iff r1).mp h1)]
    exact State.withFreg_of_ill_formed h2 k

theorem State.withLengths_of_ill_formed {l1 l2 : RegNum} (h : productLengths l1 l2 = false) (k : Result) :
    s.withLengths l1 l2 k = s.addressFault .specification := by
  refine if_pos ?_
  simp only [productLengths, Bool.and_eq_false_iff, decide_eq_false_iff_not] at h
  omega

/-- An instruction whose register numbers or lengths break its rule ends there, before it looks at an operand. -/
theorem exec_of_ill_formed (i : Instr) (s : State) (hi : i.wellFormed = false) :
    exec i s = s.addressFault .specification := by
  unfold exec
  cases i with
  | mr | dr | m | d | srdl | sldl | srda | slda => exact State.withEven_of_ill_formed hi _
  | lpdr | lndr | ltdr | lcdr | hdr | ldr | cdr | adr | sdr | mdr | ddr | awr | swr | lper | lner | lter | lcer | her
  | ler | cer | aer | ser | mer | der | aur | sur => exact State.withFregs_of_ill_formed hi _
  | std | ld | cd | ad | sd | md | dd | aw | sw | ste | le | ce | ae | se | me | de | au | su =>
    exact State.withFreg_of_ill_formed hi _
  | mp | dp => exact State.withLengths_of_ill_formed hi _
  | _ => cases hi

/-! ## Storage keys -/

theorem State.keyBlock_eq (s : State) (r : RegNum) : s.keyBlock r = (s.gpr r).toNat % 2 ^ 24 / 2048 := by
  rw [State.keyBlock, blockOf, State.regTarget, BitVec.toNat_setWidth]

theorem State.withBlock_of_inside {k : Nat → Result} (h : s.keyBlock r * 2048 < s.cfg.memSize) :
    s.withBlock r k = k (s.keyBlock r) := if_neg (by omega)

theorem State.withBlock_of_outside {k : Nat → Result} (h : s.cfg.memSize ≤ s.keyBlock r * 2048) :
    s.withBlock r k = s.addressFault .addressing := if_pos h

/-! ## The key field at the default position, bits 24-27 (R134, R135). -/

theorem withKeyField_left (v : Word) (k : BitVec 4) :
    (withKeyField 24 v k).extractLsb' 8 24 = v.extractLsb' 8 24 := by
  apply BitVec.eq_of_toNat_eq
  simp only [withKeyField, BitVec.extractLsb'_toNat, BitVec.toNat_ofNat, Nat.shiftRight_eq_div_pow]
  omega

theorem withKeyField_key (v : Word) (k : BitVec 4) : (withKeyField 24 v k).extractLsb' 4 4 = k := by
  apply BitVec.eq_of_toNat_eq
  simp only [withKeyField, BitVec.extractLsb'_toNat, BitVec.toNat_ofNat, Nat.shiftRight_eq_div_pow]
  omega

/-- The bits left of the four rightmost are those of the register as it was. -/
theorem extractLsb'_freeGprLow (s : State) (r : RegNum) {start len : Nat} (h : 4 ≤ start) :
    ((s.freeGprLow r 4).gpr r).extractLsb' start len = (s.gpr r).extractLsb' start len := by
  obtain ⟨k, rfl⟩ := Nat.exists_eq_add_of_le h
  apply BitVec.eq_of_toNat_eq
  rw [State.freeGprLow, State.gpr_setGpr_self]
  simp only [BitVec.extractLsb'_toNat, BitVec.toNat_ofNat, Nat.shiftRight_eq_div_pow, Nat.pow_add,
    ← Nat.div_div_eq_div_mul]
  congr 2
  omega

end Sys2Proof.Machine
end

section
/-! PROOFS. The obligations of 40_rr_general. -/

open Sys2Proof Sys2Proof.Machine

/-- Settles O21: the result of each load is the value of a word, except where the maximum negative number has no
complement. -/
theorem registerLoads : Obligations.RegisterLoads := by
  unfold Obligations.RegisterLoads
  rintro s r1 r2 v rfl
  have hlpr : exec (.lpr r1 r2) s = s.finishArith r1 (loadPositive (s.gpr r2)) := rfl
  have hlnr : exec (.lnr r1 r2) s = s.finishArith r1 (loadNegative (s.gpr r2)) := rfl
  have hlcr : exec (.lcr r1 r2) s = s.finishArith r1 (loadComplement (s.gpr r2)) := rfl
  obtain ⟨hpositive, hcomplement⟩ : loadPositive 0x80000000#32 = ⟨0x80000000#32, 3, true⟩ ∧
      loadComplement 0x80000000#32 = ⟨0x80000000#32, 3, true⟩ := by decide
  refine ⟨rfl, ?ltr, ?lnr, fun hv => ?fits, fun hv hmask => ?masked, fun hv hmask hifr => ?unmasked⟩
  case ltr => rw [← ccSign_eq]; rfl
  case lnr => rw [hlnr, loadNegative_eq, finishArith_of_fits]
  case fits =>
    rw [hlpr, hlcr, loadPositive_eq hv, loadComplement_eq hv]
    exact ⟨finishArith_of_fits .., finishArith_of_fits ..⟩
  case masked =>
    rw [hlpr, hlcr, hv, hpositive, hcomplement, finishArith_of_masked s r1 _ _ hmask]
    exact ⟨rfl, rfl⟩
  case unmasked =>
    rw [hlpr, hlcr, hv, hpositive, hcomplement, finishArith_of_unmasked s r1 _ _ hmask hifr]
    exact ⟨rfl, rfl⟩

/-- Settles O22: each form ends as the addition or subtraction of its operand, whatever place that comes from. -/
theorem signedSums : Obligations.SignedSums := by
  unfold Obligations.SignedSums
  refine ⟨fun s i r1 b hi => ?add, fun s i r1 b hi => ?subtract⟩
  case add =>
    have hexec := exec_of_operand_or_half (f := fun v => s.finishArith r1 (addSigned (s.gpr r1) v)) hi
      (fun _ => rfl) (fun _ _ _ => rfl) (fun _ _ _ => rfl)
    rw [hexec]
    exact finishArith_signed s r1 (addSigned_eq _ _)
  case subtract =>
    have hexec := exec_of_operand_or_half (f := fun v => s.finishArith r1 (subSigned (s.gpr r1) v)) hi
      (fun _ => rfl) (fun _ _ _ => rfl) (fun _ _ _ => rfl)
    rw [hexec]
    exact finishArith_signed s r1 (subSigned_eq _ _)

/-- Settles O23: a logical sum is a fixed-point result that never overflows. -/
theorem logicalSums : Obligations.LogicalSums := by
  unfold Obligations.LogicalSums
  refine fun s i r1 b => ⟨fun hi => ?add, fun hi => ?subtract⟩
  case add =>
    have hexec := exec_of_operand (f := fun v => s.finishArith r1 (addLogical (s.gpr r1) v)) hi
      (fun _ => rfl) (fun _ _ _ => rfl)
    rw [hexec, addLogical_eq, finishArith_of_fits]
  case subtract =>
    have hexec := exec_of_operand (f := fun v => s.finishArith r1 (subLogical (s.gpr r1) v)) hi
      (fun _ => rfl) (fun _ _ _ => rfl)
    rw [hexec, subLogical_eq, finishArith_of_fits]

/-- Settles O24: the model compares exact values, the statement bit vectors; TM's mask is all ones in the byte where it
selects no zero. -/
theorem comparisons : Obligations.Comparisons := by
  unfold Obligations.Comparisons
  refine ⟨fun s i r1 b => ⟨fun hi => ?signed, fun hi => ?unsigned⟩, fun s i2 b1 d1 hread => ⟨?cli, ?tm⟩⟩
  case signed =>
    have hexec := exec_of_operand_or_half (f := fun v => (s.setCC (compareSigned (s.gpr r1) v)).complete) hi
      (fun _ => rfl) (fun _ _ _ => rfl) (fun _ _ _ => rfl)
    rw [hexec, compareSigned_eq]
    rfl
  case unsigned =>
    have hexec : exec i s = (s.setCC (compareLogical (s.gpr r1).toNat b.toNat)).complete := by
      rcases hi with ⟨_, rfl, rfl⟩ | ⟨_, _, _, rfl, hread, rfl⟩
      · rfl
      · exact State.withRead_of_readable hread (State.value_word (State.given_of_readable hread)) _
    rw [hexec, compareLogical_eq]
    rfl
  case cli =>
    rw [← compareLogical_eq]
    exact State.withRead_byte hread _
  case tm =>
    have hexec : exec (.tm i2 b1 d1) s = (s.setCC (ccMask (s.byteVal (s.eab d1 b1)) i2)).complete := by
      refine (State.withRead_byte hread _).trans ?_
      rw [BitVec.ofNat_toNat, BitVec.setWidth_eq]
    rw [hexec, ccMask]
    simp only [and_eq_mask_iff]
    rfl

/-- Settles O25: each of the three operations ends with its bits and their code, in both forms. -/
theorem logicalOperations : Obligations.LogicalOperations := by
  unfold Obligations.LogicalOperations
  intro s i r1 b v hi
  have hexec : exec i s = s.finishLogic r1 v := by
    rcases hi with ⟨hand, rfl⟩ | ⟨hor, rfl⟩ | ⟨hxor, rfl⟩
    · exact exec_of_operand (f := fun v => s.finishLogic r1 (s.gpr r1 &&& v)) hand (fun _ => rfl) (fun _ _ _ => rfl)
    · exact exec_of_operand (f := fun v => s.finishLogic r1 (s.gpr r1 ||| v)) hor (fun _ => rfl) (fun _ _ _ => rfl)
    · exact exec_of_operand (f := fun v => s.finishLogic r1 (s.gpr r1 ^^^ v)) hxor (fun _ => rfl) (fun _ _ _ => rfl)
  rw [hexec]
  rfl

/-- Settles O26: the product of the exact values is the product of the operands, sign-extended to the width of the
result. -/
theorem multiplication : Obligations.Multiplication := by
  unfold Obligations.Multiplication
  refine fun s i r1 b => ⟨fun hi heven => ?pair, ?half⟩
  case pair =>
    have hexec := exec_of_operand (f := fun v => (s.setPair r1 (mulSigned (s.gpr (r1 + 1)) v)).complete) hi
      (fun _ => State.withEven_of_even heven _) (fun _ _ _ => State.withEven_of_even heven _)
    rw [hexec, mulSigned_eq]
    rfl
  case half =>
    rintro ⟨x2, b2, d2, rfl, hb⟩
    have hexec : exec (.mh r1 x2 b2 d2) s =
        (s.setGpr r1 (BitVec.ofInt 32 ((s.gpr r1).toInt * b.toInt))).complete :=
      State.withRead_half hb fun v => (s.setGpr r1 (BitVec.ofInt 32 ((s.gpr r1).toInt * v.toInt))).complete
    rw [hexec, ofInt_mul_toInt]
    rfl

/-- Settles O27: `divSigned` answers the quotient and remainder, or nothing where the division is in error. -/
theorem division : Obligations.Division := by
  unfold Obligations.Division
  rintro s i r1 d n hi heven rfl
  have hexec := exec_of_operand (f := fun v => s.finishDivide r1 (divSigned (s.pair r1) v)) hi
    (fun _ => State.withEven_of_even heven _) (fun _ _ _ => State.withEven_of_even heven _)
  refine ⟨fun hd hlow hhigh => ?_, fun herror hifr => ?_⟩
  · rw [hexec, divSigned_of_fits (n := s.pair r1) hd hlow hhigh, finishDivide_of_some]
    rfl
  · rw [hexec, divSigned_of_error (n := s.pair r1) herror]
    exact State.suppress_eq_suppressed hifr .divideError .none

/-- Settles O28: the target is computed from the registers as they were before the link word is stored. -/
theorem branchAndLink : Obligations.BranchAndLink := by
  unfold Obligations.BranchAndLink
  rintro s r1 r2 x2 b2 d2 link rfl
  rw [← State.linkWord_eq]
  refine ⟨?_, branchIf_setGpr s r1 s.linkWord true _⟩
  refine (branchIf_setGpr s r1 s.linkWord (r2 != 0) (s.regTarget r2)).trans ?_
  by_cases hr : r2 = 0 <;> simp [hr, State.regTarget]

/-- Settles O29: count, increment and comparand are those of the state before the register is written; BXLE tests
the negation of what BXH tests. -/
theorem countAndIndexBranches : Obligations.CountAndIndexBranches := by
  unfold Obligations.CountAndIndexBranches
  intro s r1 r2 r3 x2 b2 d2
  have hcount : s.gpr r1 - 1#32 = 0#32 ↔ s.gpr r1 = 1#32 := sub_eq_zero
  have hcomparand : s.comparand r3 = if r3.toNat % 2 = 0 then s.gpr (r3 + 1) else s.gpr r3 := by
    rw [State.comparand, or_one_eq, apply_ite s.gpr]
  refine ⟨?bctr, ?bct, ?bxh, ?bxle⟩
  case bctr =>
    refine (branchIf_setGpr s r1 _ (s.gpr r1 - 1 != 0 && r2 != 0) (s.regTarget r2)).trans ?_
    simp [State.regTarget, hcount, ← not_or]
  case bct =>
    refine (branchIf_setGpr s r1 _ (s.gpr r1 - 1 != 0) (s.ea d2 x2 b2)).trans ?_
    simp [hcount]
  case bxh =>
    refine (branchIf_setGpr s r1 _ _ (s.eab d2 b2)).trans ?_
    rw [← hcomparand, BitVec.slt]
  case bxle =>
    refine (branchIf_setGpr s r1 _ _ (s.eab d2 b2)).trans ?_
    rw [← hcomparand, BitVec.slt]
    simp only [decide_eq_true_eq, ← not_lt, ite_not]

/-- Settles O30: no register is written before the branch, whose test is one bit of the mask. -/
theorem branchOnCondition : Obligations.BranchOnCondition := by
  unfold Obligations.BranchOnCondition
  intro s m1 r2 x2 b2 d2
  rw [← condTrue_eq]
  refine ⟨(s.branchIf_eq _ _).trans ?_, s.branchIf_eq _ _⟩
  simp [State.regTarget]

/-- Settles O31: SVC completes with a condition that has no mask bit. -/
theorem programMaskAndSupervisorCall : Obligations.ProgramMaskAndSupervisorCall := by
  unfold Obligations.ProgramMaskAndSupervisorCall
  refine ⟨fun s r1 => ?spm, fun s i hifr => ?svc⟩
  case spm =>
    rw [← Nat.shiftRight_eq_div_pow, ← Nat.shiftRight_eq_div_pow]
    rfl
  case svc =>
    exact congrArg _ (State.raise_eq_interrupted (s := s.advance) hifr .supervisorCall (.svc i))

/-- Settles O32: behind the privileged check and that of the block, SSK writes one key and ISK one register, of which
it then frees the four rightmost bits. -/
theorem storageKeyInstructions : Obligations.StorageKeyInstructions := by
  unfold Obligations.StorageKeyInstructions
  rintro s r1 r2 block hpriv hbit rfl
  rw [← State.keyBlock_eq]
  have hssk : exec (.ssk r1 r2) s = s.withBlock r2 fun b => (s.setKey b (s.keyField r1)).complete :=
    State.privileged_of_authorized hpriv _
  have hisk : exec (.isk r1 r2) s = s.withBlock r2 fun b =>
      ((s.setGpr r1 (withKeyField s.cfg.keyBit (s.gpr r1) (s.keyAt b))).freeGprLow r1 (28 - s.cfg.keyBit)).complete :=
    State.privileged_of_authorized hpriv _
  refine ⟨fun hinside => ?inside, fun houtside hifr => ?outside⟩
  case inside =>
    rw [hssk, hisk, State.withBlock_of_inside hinside, State.withBlock_of_inside hinside]
    refine ⟨⟨_, rfl, rfl, fun b => ?key⟩, ⟨_, rfl, rfl, fun q hq => ?others, ?left, ?inserted⟩⟩
    case key =>
      refine (s.keyAt_setKey _ b _).trans ?_
      simp only [State.keyField, hbit, eq_comm]
    case others =>
      exact (State.gpr_setGpr_ne _ _ _ _ hq.symm).trans (State.gpr_setGpr_ne _ _ _ _ hq.symm)
    case left =>
      rw [hbit]
      refine (extractLsb'_freeGprLow _ r1 (by decide)).trans ?_
      rw [State.gpr_setGpr_self, withKeyField_left]
    case inserted =>
      rw [hbit]
      refine (extractLsb'_freeGprLow _ r1 (by decide)).trans ?_
      rw [State.gpr_setGpr_self, withKeyField_key]
  case outside =>
    rw [hssk, hisk, State.withBlock_of_outside houtside, State.withBlock_of_outside houtside,
      State.addressFault_eq_suppressed hifr]
    exact ⟨rfl, rfl⟩

/-- Settles O35: the rule is checked before any operand, so the instruction is suppressed whatever follows. -/
theorem registerRulesSuppress : Obligations.RegisterRulesSuppress := by
  unfold Obligations.RegisterRulesSuppress
  intro s i hi hifr
  rw [exec_of_ill_formed i s hi, State.addressFault_eq_suppressed hifr]
end

section
/-! PROOFS. The two-operand floating-point instructions through their forms: the operands, behind the checks of the
register numbers and of storage, and the one law each form runs (41_rr_floating R181, 43_rx_floating). -/

namespace Sys2Proof.Machine

variable {s : State} {r r1 r2 x2 b2 : RegNum} {d2 : Disp} {i : Instr} {w : FloatForm}

/-! ## Operands -/

theorem State.withFreg_of_float (h : floatRegister r = true) (k : Result) : s.withFreg r k = k :=
  if_pos ((floatRegister_iff r).mp h)

theorem State.withFregs_of_float (h : (floatRegister r1 && floatRegister r2) = true) (k : Result) :
    s.withFregs r1 r2 k = k := by
  obtain ⟨h1, h2⟩ := Bool.and_eq_true_iff.mp h
  rw [State.withFregs, State.withFreg_of_float h1, State.withFreg_of_float h2]

theorem State.value_double {a : Addr} (h : s.given a 8) : s.mem.value a 8 = some (s.doubleAt a).toNat := by
  have hdouble : (s.doubleAt a).toNat = _ := toNat_append_eq_add (s.wordAt a) (s.wordAt (a + 4))
  simp only [State.wordAt, toNat_append_eq_add] at hdouble
  simp [Memory.value, State.bytes_of_given h, natOfBytes, List.range_succ, hdouble, BitVec.add_assoc]
  omega

/-- Behind its checks an instruction with a readable long operand goes on with that operand. -/
theorem State.withFreg_withRead_long (hr : floatRegister r = true) (h : s.readable (s.ea d2 x2 b2) 8)
    (k : Nat → Result) :
    s.withFreg r (s.withRead (s.ea d2 x2 b2) 8 k) = k (s.doubleAt (s.ea d2 x2 b2)).toNat := by
  rw [State.withFreg_of_float hr, State.withRead_of_readable h (State.value_double (State.given_of_readable h))]

theorem State.withFreg_withRead_short (hr : floatRegister r = true) (h : s.readable (s.ea d2 x2 b2) 4)
    (k : Nat → Result) :
    s.withFreg r (s.withRead (s.ea d2 x2 b2) 4 k) = k (s.wordAt (s.ea d2 x2 b2)).toNat := by
  rw [State.withFreg_of_float hr, State.withRead_of_readable h (State.value_word (State.given_of_readable h))]

/-- The short operand in a register, as a number. -/
theorem State.toNat_fprShort (s : State) (r : RegNum) : (s.fprShort r).toNat = (s.fpr r).toNat / 2 ^ 32 := by
  have h := (s.fpr r).isLt
  rw [State.fprShort, BitVec.extractLsb'_toNat, Nat.shiftRight_eq_div_pow]
  omega

/-! ## Forms -/

/-- The end of a floating-point instruction whose result has `n` fraction digits. -/
def State.finishFloat (s : State) (r : RegNum) (n : Nat) (v : FResult) : Result :=
  if n = 14 then s.finishLong r v else s.finishShort r v

theorem exec_of_floatAddForm (hw : s.floatAddForm i = some w) (hi : s.operandsReady i) :
    exec i s = s.finishFloat w.r1 w.n
      (fAdd w.n (s.guardDigits w.n) w.normalize w.negate (s.pmBit 2) (s.pmBit 3) w.a w.b) := by
  obtain ⟨hwf, hread⟩ := hi
  cases i with
  | adr | sdr | awr | swr | aer | ser | aur | sur => cases hw; exact State.withFregs_of_float hwf _
  | ad | sd | aw | sw => cases hw; exact State.withFreg_withRead_long hwf (hread _ rfl) _
  | ae | se | au | su => cases hw; exact State.withFreg_withRead_short hwf (hread _ rfl) _
  | _ => cases hw

theorem exec_of_floatCompareForm (hw : s.floatCompareForm i = some w) (hi : s.operandsReady i) :
    exec i s = (s.setCC (fCompare w.n (s.guardDigits w.n) w.a w.b)).complete := by
  obtain ⟨hwf, hread⟩ := hi
  cases i with
  | cdr | cer => cases hw; exact State.withFregs_of_float hwf _
  | cd => cases hw; exact State.withFreg_withRead_long hwf (hread _ rfl) _
  | ce => cases hw; exact State.withFreg_withRead_short hwf (hread _ rfl) _
  | _ => cases hw

/-- The product is long, whatever the operands are. -/
theorem exec_of_floatMultiplyForm (hw : s.floatMultiplyForm i = some w) (hi : s.operandsReady i) :
    w.n = 14 ∧ exec i s = s.finishFloat w.r1 14 (fMulLong (s.guardDigits 14) (s.pmBit 2) w.a w.b) ∨
    w.n = 6 ∧ exec i s = s.finishFloat w.r1 14 (fMulShort (s.pmBit 2) w.a w.b) := by
  obtain ⟨hwf, hread⟩ := hi
  cases i with
  | mdr => cases hw; exact .inl ⟨rfl, State.withFregs_of_float hwf _⟩
  | mer => cases hw; exact .inr ⟨rfl, State.withFregs_of_float hwf _⟩
  | md => cases hw; exact .inl ⟨rfl, State.withFreg_withRead_long hwf (hread _ rfl) _⟩
  | me => cases hw; exact .inr ⟨rfl, State.withFreg_withRead_short hwf (hread _ rfl) _⟩
  | _ => cases hw

theorem exec_of_floatDivideForm (hw : s.floatDivideForm i = some w) (hi : s.operandsReady i) :
    exec i s = s.finishFloat w.r1 w.n (fDiv w.n (s.pmBit 2) w.a w.b) := by
  obtain ⟨hwf, hread⟩ := hi
  cases i with
  | ddr | der => cases hw; exact State.withFregs_of_float hwf _
  | dd => cases hw; exact State.withFreg_withRead_long hwf (hread _ rfl) _
  | de => cases hw; exact State.withFreg_withRead_short hwf (hread _ rfl) _
  | _ => cases hw

end Sys2Proof.Machine
end

section
/-! PROOFS. The floating-point laws of the model as the statements write them: the fields of a number, normalization,
alignment, and each law behind its case (41_rr_floating R180 to R189). -/

namespace Sys2Proof.Machine

/-! ## The fields of a number -/

theorem pack_eq (n : Nat) (sign : Bool) (c : Int) (f : Nat) :
    pack n sign c f = sign.toNat * (128 * 16 ^ n) + c.toNat * 16 ^ n + f := by
  cases sign
  · simp [pack]
  · simp [pack]; ring

theorem pack_zero (n c : Nat) : pack n false c 0 = c * 16 ^ n := by simp [pack]

theorem toNat_mod_two_beq_one (m : Nat) : (m % 2 == 1).toNat = m % 2 := by
  rcases Nat.mod_two_eq_zero_or_one m with h | h <;> simp [h]

/-- A number without bits left of its sign. -/
theorem unpack_sign_toNat {n v : Nat} (h : v < 256 * 16 ^ n) :
    (unpack n v).sign.toNat = v / (128 * 16 ^ n) := by
  have hlt : v / (128 * 16 ^ n) < 2 := Nat.div_lt_of_lt_mul (by omega)
  rw [unpack, toNat_mod_two_beq_one, Nat.mod_eq_of_lt hlt]

/-- The sign of a product or quotient, as a number. -/
theorem toNat_xor_sign (n a b : Nat) : (xor (unpack n a).sign (unpack n b).sign).toNat =
    if a / (128 * 16 ^ n) % 2 = b / (128 * 16 ^ n) % 2 then 0 else 1 := by
  simp only [unpack]
  rcases Nat.mod_two_eq_zero_or_one (a / (128 * 16 ^ n)) with ha | ha <;>
    rcases Nat.mod_two_eq_zero_or_one (b / (128 * 16 ^ n)) with hb | hb <;> simp [ha, hb]

theorem unpack_char (n v : Nat) : (unpack n v).char = (v / 16 ^ n % 128 : Nat) := rfl

theorem unpack_frac (n v : Nat) : (unpack n v).frac = v % 16 ^ n := rfl

/-! ## Normalization -/

/-- A shift left by `k` digits normalizes the fraction `m` of `n` digits (R183). -/
def NormalizedBy (n m k : Nat) : Prop := 16 ^ (n - 1) ≤ m * 16 ^ k ∧ m * 16 ^ k < 16 ^ n

variable {n m k : Nat}

theorem NormalizedBy.pos (h : NormalizedBy n m k) : 0 < m := by
  obtain ⟨hlow, -⟩ := h
  exact Nat.pos_of_ne_zero fun hm => absurd hlow (by simp [hm])

theorem NormalizedBy.digits_pos (h : NormalizedBy n m k) : 0 < n := by
  obtain ⟨hlow, hhigh⟩ := h
  exact Nat.pos_of_ne_zero fun hn => absurd (hlow.trans_lt hhigh) (by simp [hn])

/-- One digit of the shift. -/
theorem NormalizedBy.step (h : NormalizedBy n m (k + 1)) : m < 16 ^ (n - 1) ∧ NormalizedBy n (m * 16) k := by
  have hn := h.digits_pos
  obtain ⟨hlow, hhigh⟩ := h
  have hmul : m * 16 ^ (k + 1) = m * 16 * 16 ^ k := by ring
  have hm : m * 16 ≤ m * 16 * 16 ^ k := Nat.le_mul_of_pos_right _ (by positivity)
  have hpow : 16 ^ n = 16 ^ (n - 1) * 16 := by rw [← Nat.pow_succ, Nat.succ_eq_add_one, Nat.sub_add_cancel hn]
  rw [hmul] at hlow hhigh
  exact ⟨by omega, hlow, hhigh⟩

/-- The shift has fewer digits than the fraction. -/
theorem NormalizedBy.lt (h : NormalizedBy n m k) : k < n := by
  have hm : 16 ^ k ≤ m * 16 ^ k := Nat.le_mul_of_pos_left _ h.pos
  obtain ⟨-, hhigh⟩ := h
  exact (Nat.pow_lt_pow_iff_right (by decide)).mp (hm.trans_lt hhigh)

theorem normalizeFrac_of_normalizedBy {fuel : Nat} (h : NormalizedBy n m k) (hfuel : k < fuel) (c : Int) :
    normalizeFrac fuel (16 ^ (n - 1)) c m = (c - k, m * 16 ^ k) := by
  induction k generalizing fuel m c with
  | zero =>
    obtain ⟨hlow, -⟩ := h
    cases fuel with
    | zero => omega
    | succ fuel =>
      rw [normalizeFrac, if_neg (by omega)]
      simp
  | succ k ih =>
    obtain ⟨hlt, hstep⟩ := h.step
    cases fuel with
    | zero => omega
    | succ fuel =>
      rw [normalizeFrac, if_pos hlt, ih hstep (by omega)]
      push_cast
      ring_nf

/-- Normalization is the shift that normalizes. -/
theorem normalizeDigits_of_normalizedBy (h : NormalizedBy n m k) (c : Int) :
    normalizeDigits n c m = (c - k, m * 16 ^ k) :=
  normalizeFrac_of_normalizedBy h h.lt c

theorem normalizeDigits_unpack {v : Nat} (h : NormalizedBy n (v % 16 ^ n) k) :
    normalizeDigits n (unpack n v).char (unpack n v).frac =
      (((v / 16 ^ n % 128 : Nat) - k : Int), v % 16 ^ n * 16 ^ k) :=
  normalizeDigits_of_normalizedBy h _

/-- A fraction that is not zero can be normalized. -/
theorem exists_normalizedBy (hm : m ≠ 0) (hn : m < 16 ^ n) : ∃ k, NormalizedBy n m k := by
  have hlog : Nat.log 16 m < n := (Nat.log_lt_iff_lt_pow (by decide) hm).mpr hn
  have hlow := Nat.pow_log_le_self 16 hm
  have hhigh := Nat.lt_pow_succ_log_self (b := 16) (by decide) m
  refine ⟨n - 1 - Nat.log 16 m, ?_, ?_⟩
  · calc 16 ^ (n - 1) = 16 ^ Nat.log 16 m * 16 ^ (n - 1 - Nat.log 16 m) := by rw [← Nat.pow_add]; congr 1; omega
      _ ≤ m * 16 ^ (n - 1 - Nat.log 16 m) := Nat.mul_le_mul_right _ hlow
  · calc m * 16 ^ (n - 1 - Nat.log 16 m)
        < 16 ^ (Nat.log 16 m).succ * 16 ^ (n - 1 - Nat.log 16 m) := Nat.mul_lt_mul_of_pos_right hhigh (by positivity)
      _ = 16 ^ n := by rw [← Nat.pow_add]; congr 1; omega

/-! ## Addition and comparison -/

theorem alignedFrac_negateIf (n g L v : Nat) (negate : Bool) :
    alignedFrac g (negateIf (unpack n v) negate) L = shiftedFraction n g L negate v := by
  simp only [alignedFrac, negateIf, unpack, shiftedFraction, Int.toNat_sub, ite_mul, neg_mul, one_mul]

theorem negateIf_false (u : Unpacked) : negateIf u false = u := by
  simp [negateIf]

/-- The sum of the fractions, shifted to the larger characteristic. -/
theorem fSum_eq {n g a b L : Nat} (negate : Bool) (hL : L = max (a / 16 ^ n % 128) (b / 16 ^ n % 128)) :
    fSum n g negate a b = shiftedFraction n g L false a + shiftedFraction n g L negate b := by
  have hmax : max (unpack n a).char (negateIf (unpack n b) negate).char = L := by rw [hL, Nat.cast_max]; rfl
  rw [fSum, hmax, alignedFrac_negateIf]
  conv_lhs => rw [← negateIf_false (unpack n a), alignedFrac_negateIf]

/-- What an addition does with the fraction after the carry, and with the characteristic. -/
theorem fAdd_eq {g a b L M C : Nat} {T : Int} (normalize negate pm2 pm3 : Bool)
    (hL : L = max (a / 16 ^ n % 128) (b / 16 ^ n % 128))
    (hT : T = shiftedFraction n g L false a + shiftedFraction n g L negate b)
    (hcarry : T.natAbs < 16 ^ (n + g) ∧ M = T.natAbs ∧ C = L ∨
      16 ^ (n + g) ≤ T.natAbs ∧ M = T.natAbs / 16 ∧ C = L + 1) :
    fAdd n g normalize negate pm2 pm3 a b = fAddFinish n g normalize pm2 pm3 (decide (T < 0)) C M := by
  have hsum : fSum n g negate a b = T := (fSum_eq negate hL).trans hT.symm
  have hmax : max (unpack n a).char (unpack n b).char = L := by rw [hL, Nat.cast_max]; rfl
  simp only [fAdd, hsum, hmax]
  rcases hcarry with ⟨hlt, rfl, rfl⟩ | ⟨hle, rfl, rfl⟩
  · exact if_pos hlt
  · rw [if_neg (by omega)]; rfl

variable {g M C : Nat} {normalize pm2 pm3 sign : Bool}

theorem fAddFinish_of_overflow (hC : 127 < C) :
    fAddFinish n g normalize pm2 pm3 sign C M = fOverflow (.set 3) := if_pos (by omega)

theorem fAddFinish_zero (hC : C ≤ 127) : fAddFinish n g normalize pm2 pm3 sign C 0 =
    if pm3 then { value := .set (pack n false C 0), cc := .set 0, raised := some .significantError }
    else { value := .set 0, cc := .set 0, raised := none } := by
  rw [fAddFinish, if_neg (by omega), if_pos rfl]

/-- The fraction not lost: a result whose characteristic is `k` lower, or an underflow. -/
theorem fAddFinish_of_ne_zero (hC : C ≤ 127) (hM : M ≠ 0)
    (hk : normalize = false ∧ k = 0 ∨ normalize = true ∧ NormalizedBy (n + g) M k) :
    fAddFinish n g normalize pm2 pm3 sign C M =
      if C < k then fUnderflow pm2 .anyBelow3 (.set 0) else fAddPack n g sign (C - k : Nat) (M * 16 ^ k) := by
  rw [fAddFinish, if_neg (by omega), if_neg hM]
  rcases hk with ⟨rfl, rfl⟩ | ⟨rfl, hk⟩
  · simp
  · simp only [normalizeDigits_of_normalizedBy hk, if_true]
    split
    · rw [if_pos (by omega)]
    · rw [if_neg (by omega), Nat.cast_sub (by omega)]

/-! ## Halving, multiplication and division: the range test on the characteristic -/

theorem fHalve_zero {v : Nat} (hf : v % 16 ^ n / 2 = 0) :
    fHalve n true pm2 v = { value := .set 0, cc := .keep, raised := none } := by
  simp only [fHalve, unpack, if_true]
  exact if_pos hf

/-- A halved fraction is normalized; its characteristic cannot be too large. -/
theorem fHalve_of_normalizedBy {v : Nat} (h : NormalizedBy n (v % 16 ^ n / 2) k) :
    fHalve n true pm2 v =
      fRange n pm2 (unpack n v).sign ((v / 16 ^ n % 128 : Nat) - k) (v % 16 ^ n / 2 * 16 ^ k) := by
  have hchar : v / 16 ^ n % 128 < 128 := Nat.mod_lt _ (by decide)
  simp only [fHalve, if_true, unpack_frac, unpack_char, if_neg h.pos.ne', normalizeDigits_of_normalizedBy h, fRange]
  rw [if_neg (c := 127 < _) (by omega)]

section TwoFactors

variable {a b ka kb P : Nat} {c : Int}

theorem fMulLong_of_zero (h : a % 16 ^ 14 = 0 ∨ b % 16 ^ 14 = 0) :
    fMulLong g pm2 a b = { value := .set 0, cc := .keep, raised := none } := if_pos h

theorem fMulShort_of_zero (h : a % 16 ^ 6 = 0 ∨ b % 16 ^ 6 = 0) :
    fMulShort pm2 a b = { value := .set 0, cc := .keep, raised := none } := if_pos h

theorem fMulLong_of_normalizedBy (ha : NormalizedBy 14 (a % 16 ^ 14) ka) (hb : NormalizedBy 14 (b % 16 ^ 14) kb)
    (hg : g ≤ 14) (hP : P = a % 16 ^ 14 * 16 ^ ka * (b % 16 ^ 14 * 16 ^ kb))
    (hc : c = (a / 16 ^ 14 % 128 : Nat) - ka + ((b / 16 ^ 14 % 128 : Nat) - kb) - 64) :
    fMulLong g pm2 a b =
      if P < 16 ^ 27 then fRange 14 pm2 (xor (unpack 14 a).sign (unpack 14 b).sign) (c - 1)
        (P / 16 ^ (14 - g) * 16 / 16 ^ g)
      else fRange 14 pm2 (xor (unpack 14 a).sign (unpack 14 b).sign) c (P / 16 ^ 14) := by
  have hzero : ¬((unpack 14 a).frac = 0 ∨ (unpack 14 b).frac = 0) := not_or.mpr ⟨ha.pos.ne', hb.pos.ne'⟩
  have hdigits : 16 ^ 14 = 16 ^ (14 - g) * 16 ^ g := by rw [← Nat.pow_add]; congr 1; omega
  have hlimit : 16 ^ 27 = 16 ^ (14 - g) * 16 ^ (14 + g - 1) := by rw [← Nat.pow_add]; congr 1; omega
  simp only [fMulLong, if_neg hzero, normalizeDigits_unpack ha, normalizeDigits_unpack hb]
  rw [← hP, Nat.div_div_eq_div_mul, ← hdigits, hlimit]
  simp only [Nat.div_lt_iff_lt_mul (show 0 < 16 ^ (14 - g) by positivity), Nat.mul_comm (16 ^ (14 + g - 1))]
  rw [hc]

theorem fMulShort_of_normalizedBy (ha : NormalizedBy 6 (a % 16 ^ 6) ka) (hb : NormalizedBy 6 (b % 16 ^ 6) kb)
    (hP : P = a % 16 ^ 6 * 16 ^ ka * (b % 16 ^ 6 * 16 ^ kb))
    (hc : c = (a / 16 ^ 6 % 128 : Nat) - ka + ((b / 16 ^ 6 % 128 : Nat) - kb) - 64) :
    fMulShort pm2 a b =
      if P < 16 ^ 11 then fRange 14 pm2 (xor (unpack 6 a).sign (unpack 6 b).sign) (c - 1) (P * 16 * 16 ^ 2)
      else fRange 14 pm2 (xor (unpack 6 a).sign (unpack 6 b).sign) c (P * 16 ^ 2) := by
  have hzero : ¬((unpack 6 a).frac = 0 ∨ (unpack 6 b).frac = 0) := not_or.mpr ⟨ha.pos.ne', hb.pos.ne'⟩
  simp only [fMulShort, if_neg hzero, normalizeDigits_unpack ha, normalizeDigits_unpack hb]
  rw [← hP, hc]

theorem fDiv_of_zero_divisor (h : b % 16 ^ n = 0) :
    fDiv n pm2 a b = { value := .keep, cc := .keep, raised := some .divideError } := if_pos h

theorem fDiv_of_zero (hb : b % 16 ^ n ≠ 0) (ha : a % 16 ^ n = 0) :
    fDiv n pm2 a b = { value := .set 0, cc := .keep, raised := none } := (if_neg hb).trans (if_pos ha)

theorem fDiv_of_normalizedBy {A B : Nat} (ha : NormalizedBy n (a % 16 ^ n) ka) (hb : NormalizedBy n (b % 16 ^ n) kb)
    (hA : A = a % 16 ^ n * 16 ^ ka) (hB : B = b % 16 ^ n * 16 ^ kb)
    (hc : c = (a / 16 ^ n % 128 : Nat) - ka - ((b / 16 ^ n % 128 : Nat) - kb) + 64) :
    fDiv n pm2 a b =
      if B ≤ A then fRange n pm2 (xor (unpack n a).sign (unpack n b).sign) (c + 1) (A * 16 ^ (n - 1) / B)
      else fRange n pm2 (xor (unpack n a).sign (unpack n b).sign) c (A * 16 ^ n / B) := by
  have hza : (unpack n a).frac ≠ 0 := ha.pos.ne'
  have hzb : (unpack n b).frac ≠ 0 := hb.pos.ne'
  simp only [fDiv, if_neg hza, if_neg hzb, normalizeDigits_unpack ha, normalizeDigits_unpack hb]
  rw [← hA, ← hB, hc]

end TwoFactors

end Sys2Proof.Machine
end

section
/-! PROOFS. The sign bit of a floating-point number and the code by sign and fraction (41_rr_floating R189 to R193). -/

namespace Sys2Proof.Machine

section SignBit

variable {w k : Nat} (v : BitVec w)

theorem getLsbD_signMask (w i : Nat) : (BitVec.ofNat w (2 ^ (w - 1))).getLsbD i = decide (i < w ∧ i = w - 1) := by
  rw [BitVec.getLsbD_ofNat, Nat.testBit_two_pow, Bool.decide_and]
  simp only [eq_comm]

theorem msb_signMask (hw : 0 < w) : (BitVec.ofNat w (2 ^ (w - 1))).msb = true := by
  rw [BitVec.msb_eq_getLsbD_last, getLsbD_signMask]
  simpa using hw

theorem msb_signSet (hw : 0 < w) : (signSet v).msb = true := by
  rw [signSet, BitVec.msb_or, msb_signMask hw, Bool.or_true]

theorem msb_signClear (hw : 0 < w) : (signClear v).msb = false := by
  rw [signClear, BitVec.msb_and, BitVec.msb_not, msb_signMask hw]
  simp

theorem msb_signInvert (hw : 0 < w) : (signInvert v).msb = !v.msb := by
  rw [signInvert, BitVec.msb_xor, msb_signMask hw, Bool.xor_true]

theorem setWidth_signMask (hk : k < w) : (BitVec.ofNat w (2 ^ (w - 1))).setWidth k = 0#k := by
  ext i hi
  rw [BitVec.getElem_setWidth, getLsbD_signMask, decide_eq_false (by omega)]
  simp

theorem setWidth_signSet (hk : k < w) : (signSet v).setWidth k = v.setWidth k := by
  rw [signSet, BitVec.setWidth_or, setWidth_signMask hk, BitVec.or_zero]

theorem setWidth_signClear (hk : k < w) : (signClear v).setWidth k = v.setWidth k := by
  rw [signClear, BitVec.setWidth_and, BitVec.setWidth_not hk.le, setWidth_signMask hk, BitVec.not_zero,
    BitVec.and_allOnes]

theorem setWidth_signInvert (hk : k < w) : (signInvert v).setWidth k = v.setWidth k := by
  rw [signInvert, BitVec.setWidth_xor, setWidth_signMask hk, BitVec.xor_zero]

end SignBit

/-! ## The code of a number, by its fraction and its sign -/

section Code

variable {n : Nat} {u v : BitVec (4 * n + 8)}

theorem two_pow_fraction (n : Nat) : 2 ^ (4 * n) = 16 ^ n := Nat.pow_mul 2 4 n

theorem unpack_sign_eq_msb (v : BitVec (4 * n + 8)) : (unpack n v.toNat).sign = v.msb := by
  have hhalf : 2 ^ (4 * n + 8 - 1) = 128 * 16 ^ n := by
    rw [← two_pow_fraction, Nat.mul_comm 128]; exact Nat.pow_add 2 (4 * n) 7
  have hlt : v.toNat < 2 * (128 * 16 ^ n) := by
    rw [← hhalf, ← Nat.pow_succ']; exact v.isLt
  have hbit : v.toNat / (128 * 16 ^ n) < 2 := Nat.div_lt_of_lt_mul (by omega)
  have hone : v.toNat / (128 * 16 ^ n) = 1 ↔ 128 * 16 ^ n ≤ v.toNat := by
    rw [← Nat.one_le_div_iff (by positivity)]
    omega
  rw [BitVec.msb_eq_decide, hhalf, unpack, Nat.mod_eq_of_lt hbit, Bool.eq_iff_iff]
  simpa using hone

theorem fSignCC_of_setWidth_eq (h : u.setWidth (4 * n) = v.setWidth (4 * n)) :
    fSignCC n u.toNat = if v.toNat % 16 ^ n = 0 then 0 else if u.msb then 1 else 2 := by
  have hfrac : u.toNat % 16 ^ n = v.toNat % 16 ^ n := by
    simpa only [BitVec.toNat_setWidth, two_pow_fraction] using congrArg BitVec.toNat h
  rw [fSignCC, unpack_frac, hfrac, unpack_sign_eq_msb]

variable (v)

theorem fSignCC_eq : fSignCC n v.toNat = if v.toNat % 16 ^ n = 0 then 0 else if v.msb then 1 else 2 :=
  fSignCC_of_setWidth_eq rfl

theorem fSignCC_signInvert :
    fSignCC n (signInvert v).toNat = if v.toNat % 16 ^ n = 0 then 0 else if v.msb then 2 else 1 := by
  rw [fSignCC_of_setWidth_eq (setWidth_signInvert v (by omega)), msb_signInvert v (by omega)]
  cases v.msb <;> rfl

theorem fSignCC_signClear : fSignCC n (signClear v).toNat = if v.toNat % 16 ^ n = 0 then 0 else 2 := by
  rw [fSignCC_of_setWidth_eq (setWidth_signClear v (by omega)), msb_signClear v (by omega)]
  rfl

theorem fSignCC_signSet : fSignCC n (signSet v).toNat = if v.toNat % 16 ^ n = 0 then 0 else 1 := by
  rw [fSignCC_of_setWidth_eq (setWidth_signSet v (by omega)), msb_signSet v (by omega)]
  rfl

end Code

end Sys2Proof.Machine
end

section
/-! PROOFS. The endings of the floating-point instructions, as the statements write the next state (00_scope R12,
41_rr_floating R184 to R189). -/

namespace Sys2Proof.Machine

/-! ## The loads -/

section Loads

variable {s : State} {r1 r2 : RegNum} {c c' : CC}

theorem floatLoad_long (h : (floatRegister r1 && floatRegister r2) = true) (v : DWord) (hc : c = c') :
    s.withFregs r1 r2 ((s.setFpr r1 v).setCC c).complete =
      .next { s with f := s.withFpr r1 v, cc := c', pc := s.next } := by
  rw [State.withFregs_of_float h, hc]
  rfl

theorem floatLoad_short (h : (floatRegister r1 && floatRegister r2) = true) (v : Word) (hc : c = c') :
    s.withFregs r1 r2 ((s.setFprShort r1 v).setCC c).complete =
      .next { s with f := s.withFprShort r1 v, cc := c', pc := s.next } := by
  rw [State.withFregs_of_float h, hc]
  rfl

end Loads

/-! ## A result in the register field -/

variable {s : State} {r : RegNum}

/-- What a floating-point instruction may make of the condition code, from the old code to the new. -/
def FCode.Allows (old new : CC) : FCode → Prop
  | .keep => new = old
  | .set c => new = c
  | .anyBelow3 => new ≠ 3

theorem ofNat_mod_three_ne (m : Nat) : BitVec.ofNat 2 (m % 3) ≠ 3 := by
  have : m % 3 < 3 := Nat.mod_lt _ (by decide)
  bv_omega

theorem State.setFCode_allows (s : State) (c : FCode) :
    ∃ cc draws, c.Allows s.cc cc ∧ s.setFCode c = { s with cc := cc, draws := draws } := by
  cases c with
  | keep | set => exact ⟨_, _, rfl, rfl⟩
  | anyBelow3 => exact ⟨_, _, ofNat_mod_three_ne _, rfl⟩

/-- With nothing pending, the condition a completed instruction raises is the one taken. -/
theorem State.completeWith_of_raised (hifr : s.ifr = 0) (c : Condition) :
    s.completeWith (some c) = .next (s.suppressed (c.priority - 1) c .none) :=
  State.suppress_eq_suppressed hifr c .none

variable (s) (r) (n : Nat)

theorem finishFloat_set (v : Nat) (c : FCode) (o : Option Condition) :
    s.finishFloat r n ⟨.set v, c, o⟩ = ({ s with f := s.floatWritten r n v }.setFCode c).completeWith o := by
  unfold State.finishFloat State.floatWritten
  split <;> rfl

/-- Suppressed by an operation that writes nothing. -/
theorem finishFloat_keep (c : Condition) (hifr : s.ifr = 0) :
    s.finishFloat r n ⟨.keep, .keep, some c⟩ = .next (s.suppressed (c.priority - 1) c .none) := by
  rw [← State.suppress_eq_suppressed hifr]
  unfold State.finishFloat
  split <;> rfl

theorem finishFloat_any (c : FCode) (o : Option Condition) : ∃ f draws, s.floatFreed r n f ∧
    s.finishFloat r n ⟨.any, c, o⟩ = ({ s with f := f, draws := draws }.setFCode c).completeWith o := by
  unfold State.finishFloat State.floatFreed State.floatWritten
  split
  · exact ⟨_, _, ⟨(s.draw 64).1.toNat, rfl⟩, by rw [BitVec.ofNat_toNat, BitVec.setWidth_eq]; rfl⟩
  · exact ⟨_, _, ⟨(s.draw 32).1.toNat, rfl⟩, by rw [BitVec.ofNat_toNat, BitVec.setWidth_eq]; rfl⟩

/-- Terminated: the register field holds any value, the condition is taken. -/
theorem finishFloat_freed (code : FCode) (c : Condition) (hifr : s.ifr = 0) :
    ∃ t, s.finishFloat r n ⟨.any, code, some c⟩ = .next t ∧ s.floatFreed r n t.f ∧ code.Allows s.cc t.cc ∧
      t = { s with f := t.f, cc := t.cc, draws := t.draws, pc := s.next }.interrupted (c.priority - 1) c .none := by
  obtain ⟨f, draws, hf, heq⟩ := finishFloat_any s r n code (some c)
  obtain ⟨cc, draws', hcc, hcode⟩ := { s with f := f, draws := draws }.setFCode_allows code
  rw [heq, hcode, State.completeWith_of_raised]
  exacts [⟨_, rfl, hf, hcc, rfl⟩, hifr]

/-- Completed with a number and a code, and the condition is then taken. -/
theorem finishFloat_set_raised (v : Nat) (cc : CC) (c : Condition) (hifr : s.ifr = 0) :
    s.finishFloat r n ⟨.set v, .set cc, some c⟩ =
      .next ({ s with f := s.floatWritten r n v, cc := cc, pc := s.next }.interrupted (c.priority - 1) c .none) := by
  rw [finishFloat_set, State.completeWith_of_raised]
  exacts [rfl, hifr]

/-- Terminated with the one condition code that the outcome allows. -/
theorem finishFloat_freed_code {code : FCode} {cc : CC} (hcode : ∀ new, code.Allows s.cc new → new = cc)
    (c : Condition) (hifr : s.ifr = 0) :
    ∃ t, s.finishFloat r n ⟨.any, code, some c⟩ = .next t ∧ s.floatFreed r n t.f ∧
      t = { s with f := t.f, cc := cc, draws := t.draws, pc := s.next }.interrupted (c.priority - 1) c .none := by
  obtain ⟨t, ht, hf, hcc, heq⟩ := finishFloat_freed s r n code c hifr
  rw [hcode _ hcc] at heq
  exact ⟨t, ht, hf, heq⟩

/-! ## The end of a product, a quotient or a normalized half: the range test (R186 to R188) -/

theorem finishFloat_fRange (m : Nat) (sign : Bool) (C : Int) (F : Nat) :
    (0 ≤ C → C ≤ 127 → s.finishFloat r n (fRange m (s.pmBit 2) sign C F) = .next { s with
      f := s.floatWritten r n (sign.toNat * (128 * 16 ^ m) + C.toNat * 16 ^ m + F), pc := s.next }) ∧
    (C < 0 → s.pm.getLsbD 1 = false → s.finishFloat r n (fRange m (s.pmBit 2) sign C F) =
      .next { s with f := s.floatWritten r n 0, pc := s.next }) ∧
    (C < 0 → s.pm.getLsbD 1 = true → s.ifr = 0 →
      ∃ t, s.finishFloat r n (fRange m (s.pmBit 2) sign C F) = .next t ∧ s.floatFreed r n t.f ∧
        t = { s with f := t.f, draws := t.draws, pc := s.next }.interrupted 28 .exponentUnderflow .none) ∧
    (127 < C → s.ifr = 0 →
      ∃ t, s.finishFloat r n (fRange m (s.pmBit 2) sign C F) = .next t ∧ s.floatFreed r n t.f ∧
        t = { s with f := t.f, draws := t.draws, pc := s.next }.interrupted 25 .exponentOverflow .none) := by
  refine ⟨fun hlow hhigh => ?inside, fun hC hmask => ?masked, fun hC hmask hifr => ?underflow,
    fun hC hifr => ?overflow⟩
  case inside =>
    rw [fRange, if_neg (by omega), if_neg (by omega), pack_eq, finishFloat_set]
    rfl
  case masked =>
    rw [fRange, if_neg (by omega), if_pos hC, show s.pmBit 2 = false from hmask]
    exact finishFloat_set s r n 0 .keep none
  case underflow =>
    rw [fRange, if_neg (by omega), if_pos hC, show s.pmBit 2 = true from hmask]
    exact finishFloat_freed_code s r n (code := .keep) (fun _ h => h) .exponentUnderflow hifr
  case overflow =>
    rw [fRange, if_pos hC]
    exact finishFloat_freed_code s r n (code := .keep) (fun _ h => h) .exponentOverflow hifr

/-! ## The end of an addition (R184) -/

theorem finishFloat_fAddPack_of_ne_zero (m c : Nat) {g M : Nat} (sign : Bool) (hM : M / 16 ^ g ≠ 0) :
    s.finishFloat r n (fAddPack m g sign c M) = .next { s with
      f := s.floatWritten r n (sign.toNat * (128 * 16 ^ m) + c * 16 ^ m + M / 16 ^ g)
      cc := if sign then 1 else 2
      pc := s.next } := by
  rw [fAddPack, if_neg hM, pack_eq, finishFloat_set]
  rfl

/-- Only the guard digit is not zero: the sign is plus. -/
theorem finishFloat_fAddPack_of_zero (m c : Nat) {g M : Nat} (sign : Bool) (hM : M / 16 ^ g = 0) :
    s.finishFloat r n (fAddPack m g sign c M) =
      .next { s with f := s.floatWritten r n (c * 16 ^ m), cc := 0, pc := s.next } := by
  rw [fAddPack, if_pos hM, pack_zero, finishFloat_set]
  rfl

end Sys2Proof.Machine
end

section
/-! PROOFS. The numbers that floating-point results stand for (41_rr_floating R180, R184, R186). -/

namespace Sys2Proof.Machine

/-- The value of a number of `n` fraction digits by its sign, characteristic and fraction (R180); the characteristic may
lie outside 0 to 127, as that of an intermediate result does (R183). -/
def Unpacked.value (n : Nat) (u : Unpacked) : ℚ :=
  (if u.sign then -1 else 1) * (16 : ℚ) ^ (u.char - 64) * (u.frac / (16 : ℚ) ^ n)

variable {n : Nat}

theorem floatValue_eq (n v : Nat) : floatValue n v = (unpack n v).value n := by
  simp [floatValue, Unpacked.value, unpack]

theorem floatValue_of_zero {v : Nat} (h : v % 16 ^ n = 0) : floatValue n v = 0 := by
  rw [floatValue, h, Nat.cast_zero, zero_div, mul_zero]

theorem unpack_pack {c : Int} {f : Nat} (sign : Bool) (hlow : 0 ≤ c) (hhigh : c ≤ 127) (hf : f < 16 ^ n) :
    unpack n (pack n sign c f) = ⟨sign, c, f⟩ := by
  have hpos : 0 < 16 ^ n := by positivity
  have hhead : pack n sign c f / 16 ^ n = (if sign then 128 else 0) + c.toNat := by
    rw [pack, Nat.mul_comm, Nat.mul_add_div hpos, Nat.div_eq_of_lt hf, Nat.add_zero]
  have hfrac : pack n sign c f % 16 ^ n = f := by
    rw [pack, Nat.mul_add_mod_self_right, Nat.mod_eq_of_lt hf]
  rw [unpack, Nat.mul_comm 128, ← Nat.div_div_eq_div_mul, hhead, hfrac, Unpacked.mk.injEq]
  cases sign
  · exact ⟨by simp; omega, by simp; omega, rfl⟩
  · exact ⟨by simp; omega, by simp; omega, rfl⟩

/-- A shift of the fraction with the characteristic keeps the value. -/
theorem Unpacked.value_shift (n : Nat) (sign : Bool) (c : Int) (f k : Nat) :
    Unpacked.value n ⟨sign, c - k, f * 16 ^ k⟩ = Unpacked.value n ⟨sign, c, f⟩ := by
  have hpow : (16 : ℚ) ^ (c - k - 64) * 16 ^ k = 16 ^ (c - 64) := by
    rw [← zpow_natCast, ← zpow_add₀ (by norm_num)]
    congr 1
    ring
  simp only [Unpacked.value, ← hpow]
  push_cast
  ring

/-- Signs, characteristics and fractions multiplied are the values multiplied: a long number from two short ones. -/
theorem Unpacked.value_mul_short (u v : Unpacked) :
    Unpacked.value 14 ⟨xor u.sign v.sign, u.char + v.char - 64, u.frac * v.frac * 16 ^ 2⟩ =
      u.value 6 * v.value 6 := by
  have hpow : (16 : ℚ) ^ (u.char + v.char - 64 - 64) = 16 ^ (u.char - 64) * 16 ^ (v.char - 64) := by
    rw [← zpow_add₀ (by norm_num)]
    congr 1
    ring
  have hsign : (if xor u.sign v.sign then (-1 : ℚ) else 1) =
      (if u.sign then -1 else 1) * (if v.sign then -1 else 1) := by
    cases u.sign <;> cases v.sign <;> norm_num
  simp only [Unpacked.value, hpow, hsign]
  push_cast
  ring

theorem Unpacked.abs_value_lt {u : Unpacked} (h : u.frac < 16 ^ n) : |u.value n| < (16 : ℚ) ^ (u.char - 64) := by
  have hsign : |(if u.sign then (-1 : ℚ) else 1)| = 1 := by cases u.sign <;> simp
  have hfrac : |(u.frac : ℚ) / 16 ^ n| < 1 := by
    rw [abs_of_nonneg (by positivity), div_lt_one (by positivity)]
    exact_mod_cast h
  rw [Unpacked.value, abs_mul, abs_mul, hsign, one_mul, abs_of_pos (by positivity)]
  exact mul_lt_of_lt_one_right (by positivity) hfrac

/-! ## The aligned sum -/

/-- The fraction of a number at its own characteristic is exact. -/
theorem shiftedFraction_value (n g v : Nat) (minus : Bool) :
    (shiftedFraction n g (v / 16 ^ n % 128) minus v : ℚ) *
        (16 : ℚ) ^ (((v / 16 ^ n % 128 : Nat) : Int) - 64 - n - g) =
      if minus then -floatValue n v else floatValue n v := by
  have hpow : (16 : ℚ) ^ (((v / 16 ^ n % 128 : Nat) : Int) - 64 - n - g) * 16 ^ g =
      16 ^ (((v / 16 ^ n % 128 : Nat) : Int) - 64) / 16 ^ n := by
    rw [zpow_sub₀ (by norm_num), zpow_sub₀ (by norm_num) _ (n : Int), zpow_natCast, zpow_natCast,
      div_mul_cancel₀ _ (by positivity)]
  rw [shiftedFraction, Nat.sub_self, Nat.pow_zero, Nat.div_one, floatValue]
  generalize v / (128 * 16 ^ n) % 2 = bit, v % 16 ^ n = F, ((v / 16 ^ n % 128 : Nat) : Int) = c at hpow ⊢
  have hsign : (((if (bit == 1) != minus then -1 else 1 : Int) : Int) : ℚ) =
      (if minus then -1 else 1) * (if bit = 1 then -1 else 1) := by
    cases minus <;> by_cases hbit : bit = 1 <;> simp [hbit]
  have hnegate (x : ℚ) : (if minus then -x else x) = (if minus then -1 else 1) * x := by cases minus <;> simp
  rw [hnegate, Int.cast_mul, hsign, Int.cast_natCast, Nat.cast_mul, Nat.cast_pow, Nat.cast_ofNat]
  linear_combination (if minus then (-1 : ℚ) else 1) * (if bit = 1 then -1 else 1) * F * hpow

/-! ## The short product -/

variable {pm2 : Bool} {a b : Nat}

/-- The fraction and the characteristic that the range test sees stand for the exact product. -/
theorem fMulShort_exact (ha : a % 16 ^ 6 ≠ 0) (hb : b % 16 ^ 6 ≠ 0) : ∃ sign C F,
    fMulShort pm2 a b = fRange 14 pm2 sign C F ∧ F < 16 ^ 14 ∧
      Unpacked.value 14 ⟨sign, C, F⟩ = floatValue 6 a * floatValue 6 b := by
  obtain ⟨ka, hka⟩ := exists_normalizedBy ha (Nat.mod_lt _ (by decide))
  obtain ⟨kb, hkb⟩ := exists_normalizedBy hb (Nat.mod_lt _ (by decide))
  have hvalue := Unpacked.value_mul_short
    ⟨(unpack 6 a).sign, (a / 16 ^ 6 % 128 : Nat) - ka, a % 16 ^ 6 * 16 ^ ka⟩
    ⟨(unpack 6 b).sign, (b / 16 ^ 6 % 128 : Nat) - kb, b % 16 ^ 6 * 16 ^ kb⟩
  rw [Unpacked.value_shift, Unpacked.value_shift] at hvalue
  have hP : a % 16 ^ 6 * 16 ^ ka * (b % 16 ^ 6 * 16 ^ kb) < 16 ^ 6 * 16 ^ 6 := Nat.mul_lt_mul'' hka.right hkb.right
  rw [fMulShort_of_normalizedBy hka hkb rfl rfl, floatValue_eq, floatValue_eq]
  split
  · next hlow =>
    refine ⟨_, _, _, rfl, by omega, ?_⟩
    rw [← Nat.mul_right_comm]
    exact (Unpacked.value_shift 14 _ _ _ 1).trans hvalue
  · exact ⟨_, _, _, rfl, by omega, hvalue⟩

/-- What a result that raises nothing holds. -/
theorem fRange_set {m v F : Nat} {sign : Bool} {C : Int} (hv : (fRange m pm2 sign C F).value = .set v)
    (hr : (fRange m pm2 sign C F).raised = none) :
    0 ≤ C ∧ C ≤ 127 ∧ v = pack m sign C F ∨ C < 0 ∧ v = 0 := by
  unfold fRange at hv hr
  split at hv
  · cases hv
  · split at hv
    · next hC =>
      cases pm2 <;> cases hv
      exact .inr ⟨hC, rfl⟩
    · cases hv
      exact .inl ⟨by omega, by omega, rfl⟩

end Sys2Proof.Machine
end

section
/-! PROOFS. The obligations of 41_rr_floating and 43_rx_floating. -/

open Sys2Proof Sys2Proof.Machine

/-- Settles O53: the sign bit is not in the fraction, so each code is by the old fraction and the new sign. -/
theorem floatingLoads : Obligations.FloatingLoads := by
  unfold Obligations.FloatingLoads
  rintro s r1 r2 v w hr1 hr2 rfl rfl
  have hregs : (floatRegister r1 && floatRegister r2) = true := by rw [hr1, hr2]; rfl
  refine ⟨State.withFregs_of_float hregs _, State.withFregs_of_float hregs _, ?ltdr, ?lter, ?lcdr, ?lcer, ?lpdr, ?lper,
    ?lndr, ?lner⟩
  case ltdr => exact floatLoad_long hregs _ (fSignCC_eq (n := 14) _)
  case lter => exact floatLoad_short hregs _ (fSignCC_eq (n := 6) _)
  case lcdr => exact floatLoad_long hregs _ (fSignCC_signInvert (n := 14) _)
  case lcer => exact floatLoad_short hregs _ (fSignCC_signInvert (n := 6) _)
  case lpdr => exact floatLoad_long hregs _ (fSignCC_signClear (n := 14) _)
  case lper => exact floatLoad_short hregs _ (fSignCC_signClear (n := 6) _)
  case lndr => exact floatLoad_long hregs _ (fSignCC_signSet (n := 14) _)
  case lner => exact floatLoad_short hregs _ (fSignCC_signSet (n := 6) _)

/-- Settles O54: a normalized half goes through the range test, which it can only fail below. -/
theorem floatingHalve : Obligations.FloatingHalve := by
  unfold Obligations.FloatingHalve
  rintro s r1 r2 i n v sign char frac hr1 hr2 hi rfl rfl rfl
  have hregs : (floatRegister r1 && floatRegister r2) = true := by rw [hr1, hr2]; rfl
  have hexec : exec i s = s.finishFloat r1 n (fHalve n s.cfg.halveNormalizes (s.pmBit 2) v) ∧ v < 256 * 16 ^ n := by
    rcases hi with ⟨rfl, rfl, rfl⟩ | ⟨rfl, rfl, rfl⟩
    · exact ⟨State.withFregs_of_float hregs _, (s.fpr r2).isLt⟩
    · rw [← State.toNat_fprShort]
      exact ⟨State.withFregs_of_float hregs _, (s.fprShort r2).isLt⟩
  obtain ⟨hexec, hv⟩ := hexec
  rw [hexec, ← unpack_sign_toNat hv]
  refine ⟨fun hdefault => ?default, fun hnormalizes => ⟨fun hzero => ?zero, fun k hlow hhigh => ?normalized⟩⟩
  case default =>
    rw [hdefault, fHalve, if_neg (by decide), pack_eq, finishFloat_set]
    rfl
  case zero =>
    rw [hnormalizes, fHalve_zero hzero]
    exact finishFloat_set s r1 n 0 .keep none
  case normalized =>
    rw [hnormalizes, fHalve_of_normalizedBy ⟨hlow, hhigh⟩]
    obtain ⟨hinside, hmasked, hunderflow, -⟩ := finishFloat_fRange s r1 n n (unpack n v).sign
      ((v / 16 ^ n % 128 : Nat) - k) (v % 16 ^ n / 2 * 16 ^ k)
    refine ⟨fun hk => ?_, fun hk => hmasked (by omega), fun hk => hunderflow (by omega)⟩
    rw [hinside (by omega) (by omega), Int.toNat_sub]

/-- Settles O55: the law behind the carry is `fAddFinish`; each clause is one of its endings. -/
theorem floatingAddition : Obligations.FloatingAddition := by
  unfold Obligations.FloatingAddition
  rintro s i w g L T M C sign k hw hi hg hL hT hcarry hsign hk
  replace hg : g = s.guardDigits w.n := hg
  have hexec : exec i s = s.finishFloat w.r1 w.n
      (fAddFinish w.n g w.normalize (s.pmBit 2) (s.pmBit 3) (decide (T < 0)) C M) := by
    rw [exec_of_floatAddForm hw hi, ← hg, fAdd_eq _ _ _ _ hL hT hcarry]
  have hminus : sign = (decide (T < 0)).toNat := by
    rw [hsign]; by_cases h : T < 0 <;> simp [h]
  have hcode : (if decide (T < 0) = true then 1 else 2 : CC) = if sign = 1 then 1 else 2 := by
    rw [hminus]; cases decide (T < 0) <;> rfl
  have hnormal (hM : M ≠ 0) : w.normalize = false ∧ k = 0 ∨ w.normalize = true ∧ NormalizedBy (w.n + g) M k := by
    rwa [← or_assoc, or_iff_left hM] at hk
  rw [hexec]
  refine ⟨fun hC hifr => ?overflow, fun hC hM hmask => ?zero, fun hC hM hmask hifr => ?lost,
    fun hC hM hk hF => ?result, fun hC hM hk hF => ?guardOnly, fun hC hM hk hmask => ?masked,
    fun hC hM hk hmask hifr => ?underflow⟩
  case overflow =>
    rw [fAddFinish_of_overflow hC]
    exact finishFloat_freed_code s w.r1 w.n (code := .set 3) (fun _ h => h) .exponentOverflow hifr
  case zero =>
    rw [hM, fAddFinish_zero hC, show s.pmBit 3 = false from hmask]
    exact finishFloat_set s w.r1 w.n 0 (.set 0) none
  case lost =>
    rw [hM, fAddFinish_zero hC, show s.pmBit 3 = true from hmask, if_pos rfl, pack_zero]
    exact finishFloat_set_raised s w.r1 w.n _ 0 .significantError hifr
  case result =>
    rw [fAddFinish_of_ne_zero hC hM (hnormal hM), if_neg (by omega), hminus]
    refine (finishFloat_fAddPack_of_ne_zero s w.r1 w.n w.n (C - k) _ hF).trans ?_
    rw [hcode, hminus]
  case guardOnly =>
    rw [fAddFinish_of_ne_zero hC hM (hnormal hM), if_neg (by omega)]
    exact finishFloat_fAddPack_of_zero s w.r1 w.n w.n (C - k) _ hF
  case masked =>
    rw [fAddFinish_of_ne_zero hC hM (hnormal hM), if_pos hk, show s.pmBit 2 = false from hmask]
    exact finishFloat_set s w.r1 w.n 0 (.set 0) none
  case underflow =>
    rw [fAddFinish_of_ne_zero hC hM (hnormal hM), if_pos hk, show s.pmBit 2 = true from hmask]
    exact finishFloat_freed s w.r1 w.n .anyBelow3 .exponentUnderflow hifr

/-- Settles O56: the difference is that of the shifted fractions; at its own characteristic a fraction is not shifted. -/
theorem floatingCompareAndSum : Obligations.FloatingCompareAndSum := by
  unfold Obligations.FloatingCompareAndSum
  refine ⟨fun s i w g L T hw hi hg hL hT => ?compare, fun n g C a b negate _ ha hb => ?sum⟩
  case compare =>
    replace hg : g = s.guardDigits w.n := hg
    rw [exec_of_floatCompareForm hw hi, ← hg, fCompare, fSum_eq true hL, ← hT]
    rfl
  case sum =>
    have hsum := fSum_eq (g := g) negate (show C = max (a / 16 ^ n % 128) (b / 16 ^ n % 128) by rw [ha, hb, max_self])
    refine ⟨hsum, ?_⟩
    have hva := shiftedFraction_value n g a false
    have hvb := shiftedFraction_value n g b negate
    rw [ha] at hva
    rw [hb] at hvb
    rw [hsum, Int.cast_add, add_mul, hva, hvb]
    cases negate
    · rfl
    · exact (sub_eq_add_neg _ _).symm

/-- Settles O57: both widths end in one range test, of a long product. -/
theorem floatingMultiplication : Obligations.FloatingMultiplication := by
  unfold Obligations.FloatingMultiplication
  rintro s i w g fa fb ka kb P F sign C hw hi hg rfl rfl
  refine ⟨fun hzero => ?zero, fun _ _ halow hahigh hblow hbhigh hP hsign hC => ?product⟩
  case zero =>
    rcases exec_of_floatMultiplyForm hw hi with ⟨hn, hexec⟩ | ⟨hn, hexec⟩ <;> rw [hn] at hzero
    · rw [hexec, fMulLong_of_zero hzero]
      exact finishFloat_set s w.r1 14 0 .keep none
    · rw [hexec, fMulShort_of_zero hzero]
      exact finishFloat_set s w.r1 14 0 .keep none
  case product =>
    have hexec : exec i s = s.finishFloat w.r1 14
        (fRange 14 (s.pmBit 2) (xor (unpack w.n w.a).sign (unpack w.n w.b).sign) C F) := by
      have ha : NormalizedBy w.n (w.a % 16 ^ w.n) ka := ⟨halow, hahigh⟩
      have hb : NormalizedBy w.n (w.b % 16 ^ w.n) kb := ⟨hblow, hbhigh⟩
      have hguard : s.guardDigits 14 = g := by rw [hg]; simp [State.guardDigits]
      have hg14 : g ≤ 14 := by rw [hg]; split <;> decide
      rcases exec_of_floatMultiplyForm hw hi with ⟨hn, hexec⟩ | ⟨hn, hexec⟩ <;> rw [hn] at ha hb hP hC ⊢
      · rw [hexec, hguard]
        rcases hC with ⟨hC, ⟨h, -⟩ | ⟨-, hlow, rfl⟩⟩ | ⟨hC, ⟨h, -⟩ | ⟨-, hhigh, rfl⟩⟩
        · omega
        · rw [fMulLong_of_normalizedBy ha hb hg14 hP hC, if_neg (by omega)]
        · omega
        · rw [fMulLong_of_normalizedBy (c := C + 1) ha hb hg14 hP (by omega), if_pos hhigh, add_sub_cancel_right]
      · rw [hexec]
        rcases hC with ⟨hC, ⟨-, hlow, rfl⟩ | ⟨h, -⟩⟩ | ⟨hC, ⟨-, hhigh, rfl⟩ | ⟨h, -⟩⟩
        · rw [fMulShort_of_normalizedBy ha hb hP hC, if_neg (by omega)]
          rfl
        · omega
        · rw [fMulShort_of_normalizedBy (c := C + 1) ha hb hP (by omega), if_pos hhigh, add_sub_cancel_right,
            Nat.mul_assoc]
          rfl
        · omega
    rw [hexec, hsign, ← toNat_xor_sign]
    exact finishFloat_fRange s w.r1 14 14 _ C F

/-- Settles O58: the quotient of the normalized fractions ends in the range test. -/
theorem floatingDivision : Obligations.FloatingDivision := by
  unfold Obligations.FloatingDivision
  rintro s i w fa fb ka kb A B F sign C hw hi rfl rfl
  rw [exec_of_floatDivideForm hw hi]
  refine ⟨fun hb hifr => ?divisor, fun hb ha => ?zero, fun _ _ => ?quotient⟩
  case divisor =>
    rw [fDiv_of_zero_divisor hb]
    exact finishFloat_keep s w.r1 w.n .divideError hifr
  case zero =>
    rw [fDiv_of_zero hb ha]
    exact finishFloat_set s w.r1 w.n 0 .keep none
  case quotient =>
    rintro rfl rfl hAlow hAhigh hBlow hBhigh hsign hC
    have ha : NormalizedBy w.n (w.a % 16 ^ w.n) ka := ⟨hAlow, hAhigh⟩
    have hb : NormalizedBy w.n (w.b % 16 ^ w.n) kb := ⟨hBlow, hBhigh⟩
    have hdiv : fDiv w.n (s.pmBit 2) w.a w.b =
        fRange w.n (s.pmBit 2) (xor (unpack w.n w.a).sign (unpack w.n w.b).sign) C F := by
      rcases hC with ⟨hle, rfl, hC⟩ | ⟨hlt, rfl, hC⟩
      · rw [fDiv_of_normalizedBy (c := C - 1) ha hb rfl rfl (by omega), if_pos hle, sub_add_cancel]
      · rw [fDiv_of_normalizedBy ha hb rfl rfl hC, if_neg (by omega)]
    rw [hdiv, hsign, ← toNat_xor_sign]
    exact finishFloat_fRange s w.r1 w.n w.n _ C F

/-- Settles O59: what the range test sees stands for the exact product, so that a product it sets to zero is small. -/
theorem shortProductExact : Obligations.ShortProductExact := by
  unfold Obligations.ShortProductExact
  intro pm2 a b v _ _ hv hr
  by_cases hzero : a % 16 ^ 6 = 0 ∨ b % 16 ^ 6 = 0
  · rw [fMulShort_of_zero hzero] at hv
    cases hv
    refine .inl ?_
    rw [floatValue_of_zero (Nat.zero_mod _)]
    rcases hzero with h | h <;> rw [floatValue_of_zero h] <;> ring
  · obtain ⟨ha, hb⟩ := not_or.mp hzero
    obtain ⟨sign, C, F, hprod, hF, hvalue⟩ := fMulShort_exact (pm2 := pm2) ha hb
    rw [hprod] at hv hr
    rw [← hvalue]
    rcases fRange_set hv hr with ⟨hlow, hhigh, rfl⟩ | ⟨hC, rfl⟩
    · rw [floatValue_eq, unpack_pack sign hlow hhigh hF]
      exact .inl rfl
    · refine .inr ⟨rfl, (Unpacked.abs_value_lt hF).trans_le ?_⟩
      exact zpow_le_zpow_right₀ (by norm_num) (show C - 64 ≤ -65 by omega)
end

section
/-! PROOFS. Effective addresses as numbers (30_encoding R88, R89), and a storage operand that is writable: the bytes a
store leaves behind (20_memory R51, R53, R56, R57, R68). -/

namespace Sys2Proof.Machine

variable {s : State} {a b : Addr} {n i : Nat}

/-! ## Effective addresses -/

/-- What a base or index field gives, before the address is cut to 24 bits. -/
theorem State.addrReg_toNat (s : State) (r : RegNum) :
    (s.addrReg r).toNat = (if r = 0 then 0 else (s.gpr r).toNat) % 2 ^ 24 := by
  unfold State.addrReg
  split
  · rfl
  · exact BitVec.toNat_setWidth ..

theorem State.eab_toNat (s : State) (d : Disp) (b : RegNum) :
    (s.eab d b).toNat = (d.toNat + (if b = 0 then 0 else (s.gpr b).toNat)) % 2 ^ 24 := by
  rw [State.eab, BitVec.toNat_add, BitVec.toNat_setWidth, State.addrReg_toNat, ← Nat.add_mod]

theorem State.ea_toNat (s : State) (d : Disp) (x b : RegNum) :
    (s.ea d x b).toNat =
      (d.toNat + (if x = 0 then 0 else (s.gpr x).toNat) + (if b = 0 then 0 else (s.gpr b).toNat)) % 2 ^ 24 := by
  have hindexed : s.ea d x b = s.eab d x + s.addrReg b := rfl
  rw [hindexed, BitVec.toNat_add, State.eab_toNat, State.addrReg_toNat, ← Nat.add_mod]

/-! ## The bytes of a number -/

theorem getElem?_bytesOfNat (v : Nat) (hi : i < n) :
    (bytesOfNat n v)[i]? = some (BitVec.ofNat 8 (v / 256 ^ (n - 1 - i))) := by
  induction n generalizing i with
  | zero => omega
  | succ n ih =>
    cases i with
    | zero => rfl
    | succ i =>
      have hplace : n + 1 - 1 - (i + 1) = n - 1 - i := by omega
      rw [bytesOfNat, List.getElem?_cons_succ, ih (by omega), hplace]

/-- A byte after the store of a number of `n` bytes from `a` on (R51). -/
theorem Memory.read_storeValue (m : Memory) (v : Nat) (hn : n ≤ 2 ^ 24) :
    (m.storeValue a n v).read b =
      if (b - a).toNat < n then some (BitVec.ofNat 8 (v / 256 ^ (n - 1 - (b - a).toNat))) else m.read b := by
  rw [Memory.storeValue, Memory.read_storeBytes _ _ _ _ (by rwa [length_bytesOfNat])]
  split
  · next hin => rw [getElem?_bytesOfNat v hin, Option.some_or]
  · next hout => rw [List.getElem?_eq_none (by rw [length_bytesOfNat]; omega), Option.none_or]

/-- Byte `i` of `n`, as the statements take it from a value and as the model takes it from a number. -/
theorem byteOf_eq_ofNat {w : Nat} (v : BitVec w) (n i : Nat) :
    byteOf v n i = BitVec.ofNat 8 (v.toNat / 256 ^ (n - 1 - i)) := by
  rw [byteOf, BitVec.extractLsb', Nat.shiftRight_eq_div_pow, Nat.pow_mul]

/-! ## A writable operand -/

theorem State.withWrite_of_writable (h : s.writable a n) (v : Nat) (k : State → Result) :
    s.withWrite a n v k = k (s.setMem (s.mem.storeValue a n v)) := by
  obtain ⟨halign, hopen⟩ := h
  simp only [State.withWrite, State.writeFault_of_openField halign hopen]

/-- An instruction that stores a value into a writable operand and does nothing else. -/
theorem State.withWrite_storedAs {w : Nat} (h : s.writable a n) (hn : n ≤ 2 ^ 24) (v : BitVec w) :
    ∃ t, s.withWrite a n v.toNat (fun t => t.complete) = .next t ∧ s.storedAs t a n v := by
  refine ⟨_, State.withWrite_of_writable h _ _, rfl, fun b => ?_⟩
  rw [byteOf_eq_ofNat]
  exact Memory.read_storeValue s.mem v.toNat hn

/-- The same for a number, byte by byte: those of the operand from the left, and those outside it. -/
theorem State.withWrite_bytes (h : s.writable a n) (hn : n ≤ 2 ^ 24) (v : Nat) :
    ∃ t, s.withWrite a n v (fun t => t.complete) = .next t ∧ t = { s with mem := t.mem, pc := s.next } ∧
      (∀ i < n, t.byteAt (a + BitVec.ofNat 24 i) = some (BitVec.ofNat 8 (v / 256 ^ (n - 1 - i)))) ∧
      ∀ b : Addr, n ≤ (b - a).toNat → t.byteAt b = s.byteAt b := by
  refine ⟨_, State.withWrite_of_writable h _ _, rfl, fun i hi => ?inside, fun b hb => ?outside⟩
  case inside =>
    have hplace : (a + BitVec.ofNat 24 i - a).toNat = i := by
      rw [add_sub_cancel_left, BitVec.toNat_ofNat, Nat.mod_eq_of_lt (by omega)]
    refine (Memory.read_storeValue s.mem v hn).trans ?_
    rw [hplace, if_pos hi]
  case outside => exact (Memory.read_storeValue s.mem v hn).trans (if_neg (by omega))

theorem State.withFreg_withWrite_storedAs {w : Nat} {r : RegNum} (hr : floatRegister r = true) (h : s.writable a n)
    (hn : n ≤ 2 ^ 24) (v : BitVec w) :
    ∃ t, s.withFreg r (s.withWrite a n v.toNat fun t => t.complete) = .next t ∧ s.storedAs t a n v := by
  rw [State.withFreg_of_float hr]
  exact State.withWrite_storedAs h hn v

theorem State.byteVal_of_byteAt {v : Byte} (h : s.byteAt a = some v) : s.byteVal a = v := by
  rw [State.byteVal, h, Option.getD_some]

end Sys2Proof.Machine
end

section
/-! PROOFS. Packed decimal as numbers (46_ss_decimal R390, R392): the digits of a generated field, and what the reading
of a packed operand says of its value. -/

namespace Sys2Proof.Machine

/-! ## Generated fields -/

/-- Half-byte `i` of the packed digits is decimal digit `i`. -/
theorem bcdDigits_digit {k i : Nat} (m : Nat) (hi : i < k) : bcdDigits k m / 16 ^ i % 16 = m / 10 ^ i % 10 := by
  induction k generalizing m i with
  | zero => omega
  | succ k ih =>
    rw [bcdDigits]
    cases i with
    | zero => omega
    | succ i =>
      have hrest : (16 * bcdDigits k (m / 10) + m % 10) / 16 = bcdDigits k (m / 10) := by omega
      rw [Nat.pow_succ', Nat.pow_succ', ← Nat.div_div_eq_div_mul, ← Nat.div_div_eq_div_mul, hrest, ih _ (by omega)]

theorem signCode_lt (ascii neg : Bool) : signCode ascii neg < 16 := by
  cases ascii <;> cases neg <;> decide

variable {n j : Nat} (ascii neg : Bool) (m : Nat)

/-- A byte left of the last holds two digits; byte `j` from the right has the digits `2j` and `2j - 1`, the sign taking
the place before digit 0. -/
theorem decFormat_byte (hj : 0 < j) (hjn : j < n) :
    decFormat ascii n m neg / 256 ^ j % 256 = m / 10 ^ (2 * j) % 10 * 16 + m / 10 ^ (2 * j - 1) % 10 := by
  obtain ⟨k, hk⟩ : ∃ k, 2 * j = k + 1 := ⟨2 * j - 1, by omega⟩
  have hplaces : 256 ^ j = 16 * 16 ^ k := by rw [← pow_succ', ← hk, Nat.pow_mul]
  have hdigits : decFormat ascii n m neg / 16 = bcdDigits (2 * n - 1) m := by
    have hsign := signCode_lt ascii neg
    unfold decFormat
    omega
  have hleft := bcdDigits_digit (k := 2 * n - 1) (i := k + 1) m (by omega)
  have hright := bcdDigits_digit (k := 2 * n - 1) (i := k) m (by omega)
  rw [Nat.pow_succ, ← Nat.div_div_eq_div_mul] at hleft
  rw [hplaces, ← Nat.div_div_eq_div_mul, hdigits, hk, Nat.add_sub_cancel, ← hleft, ← hright]
  omega

/-- The last byte holds digit 0 and the sign. -/
theorem decFormat_last_byte (hn : 0 < n) : decFormat ascii n m neg % 256 = m % 10 * 16 + signCode ascii neg := by
  have hdigit := bcdDigits_digit (k := 2 * n - 1) (i := 0) m (by omega)
  have hsign := signCode_lt ascii neg
  simp only [Nat.pow_zero, Nat.div_one] at hdigit
  unfold decFormat
  omega

/-! ## Reading a packed operand -/

variable {s : State} {a : Addr}

/-- A packed operand of which each byte has a value is the parse of the number stored there. -/
theorem State.exists_decParse_of_given (h : s.given a n) : ∃ v, s.mem.value a n = some v ∧
    (∀ d, s.decAt a n = .ok d ↔ decParse n v = some d) ∧ (s.decAt a n = .error .data ↔ decParse n v = none) := by
  obtain ⟨v, hv⟩ := Option.ne_none_iff_exists'.mp fun hnone => State.value_eq_none_iff_not_given.mp hnone h
  refine ⟨v, hv, ?_⟩
  simp only [State.decAt, hv]
  cases decParse n v <;> simp

variable {r1 x2 b2 : RegNum} {d2 : Disp}

/-- CVB of a packed operand: its value modulo 2^32, with DivideError where it does not fit (R244). -/
theorem exec_cvb_of_ok {d : Dec} (hread : s.readable (s.ea d2 x2 b2) 8) (hd : s.decAt (s.ea d2 x2 b2) 8 = .ok d) :
    exec (.cvb r1 x2 b2 d2) s = (s.setGpr r1 (BitVec.ofInt 32 d.value)).completeWith
      (if -2 ^ 31 ≤ d.value ∧ d.value < 2 ^ 31 then none else some .divideError) := by
  obtain ⟨v, hv, hok, -⟩ := State.exists_decParse_of_given (State.given_of_readable hread)
  refine (State.withRead_of_readable hread hv _).trans ?_
  simp only [(hok d).mp hd, fitsSigned_iff, Nat.reduceSub]

theorem exec_cvb_of_data (hread : s.readable (s.ea d2 x2 b2) 8) (hbad : s.decAt (s.ea d2 x2 b2) 8 = .error .data) :
    exec (.cvb r1 x2 b2 d2) s = s.suppress .dataError .none := by
  obtain ⟨v, hv, -, hdata⟩ := State.exists_decParse_of_given (State.given_of_readable hread)
  refine (State.withRead_of_readable hread hv _).trans ?_
  simp only [hdata.mp hbad]

end Sys2Proof.Machine
end

section
/-! PROOFS. EX by the outcome of its subject's fetch (42_rx_general R234). -/

namespace Sys2Proof.Machine

variable {s : State} {r1 x2 b2 : RegNum} {d2 : Disp}

/-! ## The decoder and EX -/

theorem decodeTwo_ne_ex (op : Nat) (b : Byte) : decodeTwo op b ≠ some (.ex r1 x2 b2 d2) := by
  unfold decodeTwo
  split <;> exact nofun

theorem decodeSix_ne_ex (op : Nat) (b c d e f : Byte) : decodeSix op b c d e f ≠ some (.ex r1 x2 b2 d2) := by
  unfold decodeSix
  split <;> exact nofun

/-- One row of the table of four-byte instructions is EX. -/
theorem op_eq_of_decodeFour_ex {op : Nat} {b c d : Byte} (h : decodeFour op b c d = some (.ex r1 x2 b2 d2)) :
    op = 0x44 := by
  unfold decodeFour at h
  split at h <;> cases h
  rfl

theorem instr_of_namedOr {op : Byte} {o : Option Instr} {i : Instr} (h : namedOr op o = .instr i) : o = some i := by
  cases o <;> cases h
  rfl

/-- Operation code 44 is EX, and only that. -/
theorem op_eq_of_decode_ex {op : Byte} {rest : List Byte} (h : decode (op :: rest) = .instr (.ex r1 x2 b2 d2)) :
    op = 0x44 := by
  simp only [decode] at h
  split at h
  · exact absurd (instr_of_namedOr h) (decodeTwo_ne_ex _ _)
  · exact BitVec.eq_of_toNat_eq (op_eq_of_decodeFour_ex (instr_of_namedOr h))
  · exact absurd (instr_of_namedOr h) (decodeSix_ne_ex _ _ _ _ _ _)
  · cases h

/-- An EX that is fetched has the four bytes of its format. -/
theorem exists_bytes_of_fetched_ex {a : Addr} {rest : List Byte} (h : s.fetchBytes a = .ok (0x44 :: rest)) :
    ∃ b c d, rest = [b, c, d] := by
  obtain ⟨-, op, hop, -, hlen, hbytes⟩ := State.fetchBytes_ok h
  have hfirst := hbytes 0 (instrLength_pos op)
  rw [addrPlus_zero, hop, List.getElem?_cons_zero, Option.some.injEq] at hfirst
  rw [hfirst] at hlen
  exact List.length_eq_three.mp (Nat.succ.inj hlen)

/-! ## The subject -/

theorem exec_ex (r1 x2 b2 : RegNum) (d2 : Disp) (s : State) :
    exec (.ex r1 x2 b2 d2) s = execEx r1 x2 b2 d2 s := rfl

theorem exec_ex_of_fetched {bs : List Byte} (h : s.fetchBytes (s.ea d2 x2 b2) = .ok bs) :
    exec (.ex r1 x2 b2 d2) s = s.runSubject r1 bs := by
  rw [exec_ex, execEx, h]

theorem exec_ex_of_stopped {stop : Stop} (h : s.fetchBytes (s.ea d2 x2 b2) = .error stop) :
    exec (.ex r1 x2 b2 d2) s = s.suppressBy stop := by
  rw [exec_ex, execEx, h]

/-- A fetch stopped by an address condition suppresses the EX. -/
theorem exec_ex_of_addressError {cause : AddressCause} (hifr : s.ifr = 0)
    (h : s.fetchBytes (s.ea d2 x2 b2) = .error (.address cause)) :
    exec (.ex r1 x2 b2 d2) s = .next (s.suppressed 23 .addressError (.address cause)) := by
  rw [exec_ex_of_stopped h]
  exact State.addressFault_eq_suppressed hifr cause

theorem runSubject_of_decoded {bs : List Byte} {i : Instr} (h : decode (s.modifySubject r1 bs) = .instr i) :
    s.runSubject r1 bs = execSubject i s := by
  rw [State.runSubject, h]

theorem execSubject_of_ne_ex {i : Instr} (hi : ∀ r x b d, i ≠ .ex r x b d) : execSubject i s = exec i s := by
  cases i with
  | ex r x b d => exact absurd rfl (hi r x b d)
  | _ => rfl

end Sys2Proof.Machine
end

section
/-! PROOFS. The obligations of 42_rx_general. -/

open Sys2Proof Sys2Proof.Machine

/-- Settles O20: the components are added modulo 2^24 whether the sum is cut at each step or at the end. -/
theorem effectiveAddresses : Obligations.EffectiveAddresses := by
  unfold Obligations.EffectiveAddresses
  intro s r1 x b d
  refine ⟨s.ea_toNat d x b, s.eab_toNat d b, ?_⟩
  rw [← s.ea_toNat d x b, BitVec.ofNat_toNat]
  rfl

/-- Settles O37: a readable operand goes on with its value, which the registers take as the model reads it. -/
theorem storageLoads : Obligations.StorageLoads := by
  unfold Obligations.StorageLoads
  rintro s r1 x2 b2 d2 a rfl
  refine ⟨fun hread => ?ic, fun hread => ?lh, fun hread => ?l, fun hr1 => ⟨fun hread => ?ld, fun hread => ?le⟩⟩
  case ic =>
    refine (State.withRead_byte hread _).trans ?_
    rw [BitVec.ofNat_toNat, BitVec.setWidth_eq]
    rfl
  case lh => exact State.withRead_half ⟨hread, rfl⟩ fun v => (s.setGpr r1 v).complete
  case l => exact State.withRead_word ⟨hread, rfl⟩ fun v => (s.setGpr r1 v).complete
  case ld =>
    refine (State.withFreg_withRead_long hr1 hread _).trans ?_
    rw [BitVec.ofNat_toNat, BitVec.setWidth_eq]
    rfl
  case le =>
    refine (State.withFreg_withRead_short hr1 hread _).trans ?_
    rw [BitVec.ofNat_toNat, BitVec.setWidth_eq]
    rfl

/-- Settles O38: each of the six stores a value of the operand's width. -/
theorem storageStores : Obligations.StorageStores := by
  unfold Obligations.StorageStores
  rintro s r1 x2 b2 d2 i2 a a1 rfl rfl
  refine ⟨fun h => ?sth, fun h => ?stc, fun h => ?st, fun h => ?mvi, fun hr1 => ⟨fun h => ?std, fun h => ?ste⟩⟩
  case sth | stc | st | mvi => exact State.withWrite_storedAs h (by decide) _
  case std | ste => exact State.withFreg_withWrite_storedAs hr1 h (by decide) _

/-- Settles O48: CVD stores a generated field, whose bytes are its digits and sign; CVB parses the number it reads. -/
theorem decimalConversion : Obligations.DecimalConversion := by
  unfold Obligations.DecimalConversion
  rintro s r1 x2 b2 d2 a rfl
  refine ⟨fun hwrite => ?cvd, fun hread => ?cvb⟩
  case cvd =>
    obtain ⟨t, hexec, hframe, hinside, houtside⟩ := State.withWrite_bytes hwrite (by decide)
      (decFormat s.cfg.asciiMode 8 (s.gpr r1).toInt.natAbs (decide ((s.gpr r1).toInt < 0)))
    have hbyte {j : Nat} (hj : j < 8) := congrArg BitVec.toNat (State.byteVal_of_byteAt (hinside j hj))
    refine ⟨t, hexec, hframe, fun j hj => by simp [hinside j hj], fun j hj => ?digits, ?last, houtside⟩
    case digits =>
      refine (hbyte (by omega)).trans ?_
      have hleft : 2 * (8 - 1 - j) = 14 - 2 * j := by omega
      have hright : 2 * (8 - 1 - j) - 1 = 13 - 2 * j := by omega
      rw [BitVec.toNat_ofNat, decFormat_byte _ _ _ (by omega) (by omega), hright, hleft]
    case last =>
      refine (hbyte (j := 7) (by decide)).trans ?_
      rw [BitVec.toNat_ofNat, Nat.pow_zero, Nat.div_one, decFormat_last_byte _ _ _ (by decide), ← BitVec.msb_eq_toInt]
      rfl
  case cvb =>
    refine ⟨fun d hd hlow hhigh => ?fits, fun d hd hwide hifr => ?wide, fun hbad hifr => ?bad⟩
    case fits =>
      rw [exec_cvb_of_ok hread hd, if_pos ⟨hlow, hhigh⟩]
      rfl
    case wide =>
      rw [exec_cvb_of_ok hread hd, if_neg hwide]
      exact State.suppress_eq_suppressed (s := s.setGpr r1 (BitVec.ofInt 32 d.value)) hifr .divideError .none
    case bad =>
      rw [exec_cvb_of_data hread hbad]
      exact State.suppress_eq_suppressed hifr .dataError .none

/-- Settles O60: the second byte of the subject is modified before it is decoded, its operation code is not. -/
theorem executeRunsSubject : Obligations.ExecuteRunsSubject := by
  unfold Obligations.ExecuteRunsSubject
  rintro s r1 x2 b2 d2 a rfl
  refine ⟨fun op b rest i hfetch hop hdecode => ?runs, fun rest hfetch => ?exOfEx, fun p q hr1 hfetch => ?lr,
    fun hodd hifr => ?odd, fun hfetch hifr => ?outside, fun hfetch => ?noValue⟩
  case runs =>
    have hi : ∀ r x b d, i ≠ .ex r x b d := by
      rintro r x b d rfl
      exact hop (op_eq_of_decode_ex hdecode)
    rw [exec_ex_of_fetched hfetch, runSubject_of_decoded (bs := op :: b :: rest) hdecode, execSubject_of_ne_ex hi]
  case exOfEx =>
    obtain ⟨b, c, d, rfl⟩ := exists_bytes_of_fetched_ex hfetch
    rw [exec_ex_of_fetched hfetch]
    rfl
  case lr =>
    have hdecode : decode (s.modifySubject r1 [0x18, p ++ q]) = .instr (.lr p q) := by
      rw [State.modifySubject, if_pos hr1]
      exact decode_encRR (fun _ => rfl) p q
    rw [exec_ex_of_fetched hfetch, runSubject_of_decoded hdecode]
    rfl
  case odd => exact exec_ex_of_addressError hifr (State.fetchBytes_of_odd hodd)
  case outside => exact exec_ex_of_addressError hifr hfetch
  case noValue => exact exec_ex_of_stopped hfetch
end

section
/-! PROOFS. The shifts of the model as bit-vector shifts, and how they end (44_rs_si R317 to R324); the replacement of
one byte of storage (R328 to R332). -/

namespace Sys2Proof.Machine

/-! ## Shifts -/

section Shifts

variable {w : Nat} (v : BitVec w) (n : Nat)

theorem shiftRightLogical_eq : shiftRightLogical v n = v >>> n := by
  rw [shiftRightLogical, ← Nat.shiftRight_eq_div_pow, ← BitVec.toNat_ushiftRight, BitVec.ofNat_toNat,
    BitVec.setWidth_eq]

theorem shiftLeftLogical_eq : shiftLeftLogical v n = v <<< n := by
  apply BitVec.eq_of_toNat_eq
  rw [shiftLeftLogical, BitVec.toNat_ofNat, BitVec.toNat_shiftLeft, Nat.shiftLeft_eq]

/-- The floor of the quotient by a power of two fills with the sign. -/
theorem shiftRightArith_eq : shiftRightArith v n = v.sshiftRight n := by
  have hfloor : v.toInt / 2 ^ n = (v.sshiftRight n).toInt := by
    rw [BitVec.toInt_sshiftRight, Int.shiftRight_eq_div_pow, Nat.cast_pow, Nat.cast_ofNat]
  rw [shiftRightArith, hfloor, BitVec.ofInt_toInt]

/-- The sign bit of `v`, the other bits those of `v` shifted left by `n` (R320). -/
def shiftedBesideSign : BitVec w :=
  (v <<< n) &&& BitVec.ofNat w (2 ^ (w - 1) - 1) ||| v &&& BitVec.ofNat w (2 ^ (w - 1))

variable {v n}

theorem shiftLeftArith_value (hw : 0 < w) : (shiftLeftArith v n).value = shiftedBesideSign v n := by
  obtain ⟨m, rfl⟩ : ∃ m, w = m + 1 := ⟨w - 1, by omega⟩
  have hpow : 2 ^ m < 2 ^ (m + 1) := Nat.pow_lt_pow_right (by decide) m.lt_succ_self
  have hsign : v.toNat &&& 2 ^ m = 2 ^ m * (v.toNat / 2 ^ m) := by
    have hbit : v.toNat / 2 ^ m < 2 := Nat.div_lt_of_lt_mul v.isLt
    rw [Nat.and_two_pow, Nat.toNat_testBit, Nat.mod_eq_of_lt hbit, Nat.mul_comm]
  have hrest : v.toNat * 2 ^ n % 2 ^ (m + 1) &&& 2 ^ m - 1 = v.toNat * 2 ^ n % 2 ^ m := by
    rw [Nat.and_two_pow_sub_one_eq_mod, Nat.mod_mod_of_dvd _ (Nat.pow_dvd_pow 2 m.le_succ)]
  have hbits : (shiftedBesideSign v n).toNat = v.toNat / 2 ^ m * 2 ^ m + v.toNat * 2 ^ n % 2 ^ m := by
    simp only [shiftedBesideSign, Nat.add_sub_cancel, BitVec.toNat_or, BitVec.toNat_and, BitVec.toNat_shiftLeft,
      BitVec.toNat_ofNat, Nat.shiftLeft_eq, Nat.mod_eq_of_lt hpow, Nat.mod_eq_of_lt ((Nat.sub_le _ 1).trans_lt hpow)]
    rw [hrest, hsign, Nat.or_comm, ← Nat.two_pow_add_eq_or_of_lt (Nat.mod_lt _ (by positivity)), Nat.mul_comm]
  simp only [shiftLeftArith, Nat.add_sub_cancel]
  rw [← hbits, BitVec.ofNat_toNat, BitVec.setWidth_eq]

theorem shiftLeftArith_of_fits (hw : 0 < w) (h : fitsSigned w (v.toInt * 2 ^ n) = true) :
    shiftLeftArith v n = ⟨shiftedBesideSign v n, ccSign (shiftedBesideSign v n), false⟩ := by
  rw [← shiftLeftArith_value hw]
  simp only [shiftLeftArith, h, if_true, Bool.not_true]

theorem shiftLeftArith_of_overflow (hw : 0 < w) (h : ¬ fitsSigned w (v.toInt * 2 ^ n) = true) :
    shiftLeftArith v n = ⟨shiftedBesideSign v n, 3, true⟩ := by
  rw [← shiftLeftArith_value hw]
  simp only [shiftLeftArith, h, if_false, Bool.not_false, Bool.false_eq_true]

end Shifts

/-! ## The end of an arithmetic left shift of a pair -/

section Pair

variable (s : State) (r : RegNum) (v : DWord) (c : CC)

theorem finishArithPair_of_fits :
    s.finishArithPair r ⟨v, c, false⟩ = .next { s with x := s.withPair r v, cc := c, pc := s.next } := rfl

theorem finishArithPair_of_masked (hmask : s.pm.getLsbD 3 = false) :
    s.finishArithPair r ⟨v, c, true⟩ = .next { s with x := s.withPair r v, cc := c, pc := s.next } := by
  rw [State.finishArithPair, overflow_masked, hmask]
  rfl

theorem finishArithPair_of_unmasked (hmask : s.pm.getLsbD 3 = true) (hifr : s.ifr = 0) :
    s.finishArithPair r ⟨v, c, true⟩ =
      .next ({ s with x := s.withPair r v, cc := c, pc := s.next }.interrupted 30 .fixedPointOverflow .none) := by
  rw [State.finishArithPair, overflow_masked, hmask]
  exact State.completeWith_of_raised (s := (s.setPair r v).setCC c) hifr .fixedPointOverflow

end Pair

/-! ## One byte replaced -/

/-- One byte of storage that may be replaced, and has a value: it becomes `f` of it, the code is made of the old one. -/
theorem State.withUpdate_replaced {s : State} {a : Addr} {u : Byte} (h : s.writable a 1) (hu : s.byteAt a = some u)
    (f : Byte → Byte) (code : Byte → CC) :
    ∃ t, s.withUpdate a f (fun v t => (t.setCC (code v)).complete) = .next t ∧
      t = { s with mem := t.mem, cc := code u, pc := s.next } ∧
      ∀ b : Addr, t.byteAt b = if b = a then some (f u) else s.byteAt b := by
  obtain ⟨halign, hopen⟩ := h
  refine ⟨((s.setMem (s.mem.write a (f u))).setCC (code u)).advance, ?_, rfl, fun b => ?_⟩
  · simp only [State.withUpdate, State.writeFault_of_openField halign hopen, hu]
    rfl
  · simp only [eq_comm (a := b)]
    exact Memory.read_write s.mem a b (f u)

end Sys2Proof.Machine
end

section
/-! PROOFS. Several registers and consecutive words of storage, LM and STM (44_rs_si R325, R333): what the walks over
them read and write, and how the instructions end (60_exceptions R428, R435). -/

namespace Sys2Proof.Machine

variable {s : State} {a a2 b : Addr} {r q : RegNum} {k n n2 : Nat}

/-! ## Places in a field of registers or of bytes -/

theorem FieldIn.take {p : Addr → Prop} (h : FieldIn p a n) (hk : k ≤ n) : FieldIn p a k :=
  fun i hi => h i (by omega)

theorem fieldIn_add_iff {p : Addr → Prop} : FieldIn p a (k + n) ↔ FieldIn p a k ∧ FieldIn p (addrPlus a k) n := by
  refine ⟨fun h => ⟨h.take (by omega), h.drop le_rfl⟩, fun ⟨hleft, hright⟩ i hi => ?_⟩
  rcases lt_or_ge i k with hik | hik
  · exact hleft i hik
  · have hplace := hright (i - k) (by omega)
    rwa [addrPlus_addrPlus, Nat.add_sub_cancel' hik] at hplace

/-- The words of a field have values where its first word and the others have. -/
theorem State.given_words_succ_iff : s.given a (4 * (k + 1)) ↔ s.given a 4 ∧ s.given (a + 4) (4 * k) := by
  rw [Nat.mul_succ, Nat.add_comm]
  exact fieldIn_add_iff (p := fun b => s.byteAt b ≠ none)

theorem toNat_sub_of_ne_first (h : r ≠ q) : (q - r).toNat = (q - (r + 1)).toNat + 1 := by bv_omega

/-- The registers wrap from 15 to 0, so that the first comes last when the count starts at the next. -/
theorem toNat_sub_first (r : RegNum) : (r - (r + 1)).toNat = 15 := by bv_omega

theorem toNat_sub_of_ge_word (h : 4 ≤ (b - a).toNat) : (b - a).toNat = (b - (a + 4)).toNat + 4 := by bv_omega

/-- The bytes of the first word come last when the count starts at the next. -/
theorem le_toNat_sub_of_lt_word (h : (b - a).toNat < 4) : 2 ^ 24 - 4 ≤ (b - (a + 4)).toNat := by bv_omega

theorem add_word_add (a : Addr) (j : Nat) : a + 4 + BitVec.ofNat 24 (4 * j) = a + BitVec.ofNat 24 (4 * (j + 1)) := by
  rw [Nat.mul_succ, Nat.add_comm, BitVec.ofNat_add, ← BitVec.add_assoc]
  rfl

/-! ## The walks -/

/-- Registers loaded from words that have values: at most sixteen, so that none is loaded twice. -/
theorem State.loadRegisters_of_given (h : s.given a (4 * k)) (hk : k ≤ 16) :
    ∃ t, s.loadRegisters k r a = some t ∧ ∀ q : RegNum, t.gpr q =
      if (q - r).toNat < k then s.wordAt (a + BitVec.ofNat 24 (4 * (q - r).toNat)) else s.gpr q := by
  induction k generalizing s r a with
  | zero => exact ⟨s, rfl, fun q => by simp⟩
  | succ k ih =>
    obtain ⟨hword, hrest⟩ := State.given_words_succ_iff.mp h
    obtain ⟨t, ht, hgpr⟩ := ih (s := s.setGpr r (s.wordAt a)) (r := r + 1) hrest (by omega)
    refine ⟨t, ?_, fun q => (hgpr q).trans ?_⟩
    · simp only [State.loadRegisters, State.value_word hword, BitVec.ofNat_toNat, BitVec.setWidth_eq, ht]
    by_cases hq : r = q
    · subst hq
      rw [toNat_sub_first, if_neg (by omega), State.gpr_setGpr_self, sub_self, if_pos (by simp)]
      simp
    · rw [State.gpr_setGpr_ne _ _ _ _ hq, toNat_sub_of_ne_first hq, add_word_add]
      simp only [Nat.add_lt_add_iff_right]
      rfl

theorem State.loadRegisters_of_not_given (h : ¬ s.given a (4 * k)) : s.loadRegisters k r a = none := by
  induction k generalizing s r a with
  | zero => exact absurd (fun i hi => absurd hi (by omega)) h
  | succ k ih =>
    rw [State.given_words_succ_iff, not_and] at h
    unfold State.loadRegisters
    split
    · rfl
    · next v hv =>
      have hword : s.given a 4 := by
        by_contra hnone
        rw [State.value_eq_none_iff_not_given.mpr hnone] at hv
        cases hv
      exact ih (s := s.setGpr r (BitVec.ofNat 32 v)) (h hword)

/-- A byte after registers were stored as words from `a` on: byte `i` of the field is a byte of register `i / 4`. -/
theorem State.read_storeRegisters (s : State) (m : Memory) (hk : 4 * k ≤ 2 ^ 24) :
    (s.storeRegisters k r a m).read b =
      if (b - a).toNat < 4 * k then
        some (byteOf (s.gpr (r + BitVec.ofNat 4 ((b - a).toNat / 4))) 4 ((b - a).toNat % 4))
      else m.read b := by
  induction k generalizing r a m with
  | zero => simp [State.storeRegisters]
  | succ k ih =>
    rw [State.storeRegisters, ih _ (by omega), Memory.read_storeValue _ _ (by decide)]
    rcases lt_or_ge (b - a).toNat 4 with hfirst | hlater
    · have hlast := le_toNat_sub_of_lt_word hfirst
      rw [if_neg (by omega), if_pos hfirst, if_pos (by omega), Nat.div_eq_of_lt hfirst, Nat.mod_eq_of_lt hfirst,
        byteOf_eq_ofNat, BitVec.add_zero]
    · have hplace := toNat_sub_of_ge_word hlater
      have hreg (j : Nat) : r + 1 + BitVec.ofNat 4 j = r + BitVec.ofNat 4 (j + 1) := by
        rw [Nat.add_comm, BitVec.ofNat_add, ← BitVec.add_assoc]
        rfl
      rw [if_neg (by omega : ¬ (b - a).toNat < 4), hplace, Nat.add_div_right _ (by decide), Nat.add_mod_right, hreg,
        Nat.mul_succ]
      simp only [Nat.add_lt_add_iff_right]

/-! ## What a termination frees -/

theorem State.freeGprs_x_draws_only (s : State) (r : RegNum) (k : Nat) :
    s.freeGprs r k = { s with x := (s.freeGprs r k).x, draws := (s.freeGprs r k).draws } := by
  induction k generalizing s r with
  | zero => rfl
  | succ k ih => rw [State.freeGprs, ih]; rfl

/-- A register that is none of the `k` freed is as before. -/
theorem State.gpr_freeGprs (s : State) (h : k ≤ (q - r).toNat) : (s.freeGprs r k).gpr q = s.gpr q := by
  induction k generalizing s r with
  | zero => rfl
  | succ k ih =>
    have hq : r ≠ q := by rintro rfl; simp at h
    have hplace := toNat_sub_of_ne_first hq
    rw [State.freeGprs, ih _ (by omega)]
    exact State.gpr_setGpr_ne _ _ _ _ hq

theorem State.freeBytes_mem_draws_only (s : State) (a : Addr) (n : Nat) :
    s.freeBytes a n = { s with mem := (s.freeBytes a n).mem, draws := (s.freeBytes a n).draws } := by
  induction n generalizing s a with
  | zero => rfl
  | succ n ih =>
    rw [State.freeBytes, ih]
    split <;> rfl

/-- A byte that is none of the `n` freed is as before. -/
theorem State.byteAt_freeBytes (s : State) (h : n ≤ (b - a).toNat) : (s.freeBytes a n).byteAt b = s.byteAt b := by
  refine (State.rewrites_freeBytes (p := fun c => (c - a).toNat < n) fun i hi _ => ?_).read_eq (by omega)
  have hplace : (addrPlus a i - a).toNat = i % 2 ^ 24 := by
    rw [addrPlus, add_sub_cancel_left, BitVec.toNat_ofNat]
  exact hplace ▸ (Nat.mod_le i _).trans_lt hi

/-! ## Which access check fails first -/

theorem State.field_zero (s : State) (a : Addr) : s.field a 0 := fun _ hi => absurd hi (Nat.not_lt_zero _)

theorem State.fieldFault_of_outside {stores : Bool} (h : ¬ s.field a n ∨ ¬ s.field a2 n2) :
    s.fieldFault a n a2 n2 stores = some .addressing :=
  if_pos (by simpa only [State.inStorage_eq_false_iff] using h)

theorem State.fieldFault_of_protected (h : s.field a n) (h2 : s.field a2 n2) (ho : ¬ s.openField a n) :
    s.fieldFault a n a2 n2 true = some .protect := by
  have hstore : s.storeAllowed a n = false := by
    rw [← Bool.not_eq_true]
    exact fun hallowed => ho (State.openField_iff.mpr ⟨State.inStorage_iff_field.mpr h, hallowed⟩)
  rw [State.fieldFault, if_neg (by simp [State.inStorage_eq_false_iff, h, h2]), if_pos ⟨rfl, hstore⟩]

theorem State.fieldFault_of_open {stores : Bool} (h : s.field a n) (h2 : s.field a2 n2)
    (ho : stores = true → s.openField a n) : s.fieldFault a n a2 n2 stores = none := by
  refine (s.fieldFault_none_iff ..).mpr ⟨State.inStorage_iff_field.mpr h, State.inStorage_iff_field.mpr h2,
    fun hs => ?_⟩
  obtain ⟨-, hallowed⟩ := State.openField_iff.mp (ho hs)
  exact hallowed

/-! ## The end at an access fault -/

/-- With nothing pending, the access fault is the condition taken. -/
theorem accessTerminated_eq_suppressed {freed : State} (hifr : freed.ifr = 0) (c : AddressCause) :
    accessTerminated freed c = .next (freed.suppressed 23 .addressError (.address c)) :=
  State.addressFault_eq_suppressed hifr c

/-- Terminated with the bytes of a field free, and no other result. -/
theorem accessTerminated_freeBytes (hifr : s.ifr = 0) (a : Addr) (n : Nat) (c : AddressCause) :
    ∃ t, accessTerminated (s.freeBytes a n) c = .next t ∧ t.cc = s.cc ∧
      s.terminatedField t a n 23 .addressError (.address c) := by
  refine ⟨_, accessTerminated_eq_suppressed ((s.freeBytes_ifr a n).trans hifr) c, s.freeBytes_cc a n, ?_,
    fun b hb => ?_⟩
  · rw [State.suppressed, State.next_freeBytes, State.freeBytes_mem_draws_only]
    rfl
  · exact s.byteAt_freeBytes hb

/-- Terminated with registers free, and no other result. -/
theorem accessTerminated_freeGprs (hifr : s.ifr = 0) (r : RegNum) (k : Nat) (c : AddressCause) :
    ∃ t, accessTerminated (s.freeGprs r k) c = .next t ∧
      t = { s with x := t.x, draws := t.draws, pc := s.next }.interrupted 23 .addressError (.address c) ∧
      ∀ q : RegNum, k ≤ (q - r).toNat → t.gpr q = s.gpr q := by
  refine ⟨_, accessTerminated_eq_suppressed ((s.freeGprs_ifr r k).trans hifr) c, ?_, fun q hq => ?_⟩
  · rw [State.suppressed, State.next_freeGprs, State.freeGprs_x_draws_only]
    rfl
  · exact s.gpr_freeGprs hq

/-! ## LM and STM behind their checks -/

section Instructions

variable {r1 r3 b2 : RegNum} {d2 : Disp}

theorem exec_lm_of_misaligned (h : (s.eab d2 b2).toNat % 4 ≠ 0) :
    exec (.lm r1 r3 b2 d2) s = s.addressFault .specification := if_pos h

theorem exec_stm_of_misaligned (h : (s.eab d2 b2).toNat % 4 ≠ 0) :
    exec (.stm r1 r3 b2 d2) s = s.addressFault .specification := if_pos h

variable (ha : (s.eab d2 b2).toNat % 4 = 0)
include ha

theorem exec_lm_of_fault {c : AddressCause}
    (h : s.fieldFault (s.eab d2 b2) (4 * registerCount r1 r3) 0 0 false = some c) :
    exec (.lm r1 r3 b2 d2) s = accessTerminated (s.freeGprs r1 (registerCount r1 r3)) c := by
  refine (if_neg (not_not.mpr ha)).trans ?_
  rw [h]

theorem exec_stm_of_fault {c : AddressCause}
    (h : s.fieldFault (s.eab d2 b2) (4 * registerCount r1 r3) 0 0 true = some c) :
    exec (.stm r1 r3 b2 d2) s = accessTerminated (s.freeBytes (s.eab d2 b2) (4 * registerCount r1 r3)) c := by
  refine (if_neg (not_not.mpr ha)).trans ?_
  rw [h]

theorem exec_lm_of_given {t : State} (h : s.field (s.eab d2 b2) (4 * registerCount r1 r3))
    (ht : s.loadRegisters (registerCount r1 r3) r1 (s.eab d2 b2) = some t) :
    exec (.lm r1 r3 b2 d2) s = t.complete := by
  refine (if_neg (not_not.mpr ha)).trans ?_
  rw [State.fieldFault_of_open h (s.field_zero 0) (absurd · Bool.false_ne_true), ht]

theorem exec_lm_of_not_given (h : s.field (s.eab d2 b2) (4 * registerCount r1 r3))
    (hnone : ¬ s.given (s.eab d2 b2) (4 * registerCount r1 r3)) :
    exec (.lm r1 r3 b2 d2) s = .refused .noValue := by
  refine (if_neg (not_not.mpr ha)).trans ?_
  rw [State.fieldFault_of_open h (s.field_zero 0) (absurd · Bool.false_ne_true),
    State.loadRegisters_of_not_given hnone]

theorem exec_stm_of_openField (h : s.openField (s.eab d2 b2) (4 * registerCount r1 r3)) :
    exec (.stm r1 r3 b2 d2) s =
      (s.setMem (s.storeRegisters (registerCount r1 r3) r1 (s.eab d2 b2) s.mem)).complete := by
  obtain ⟨hfield, -⟩ := id h
  refine (if_neg (not_not.mpr ha)).trans ?_
  rw [State.fieldFault_of_open hfield (s.field_zero 0) fun _ => h]

end Instructions

end Sys2Proof.Machine
end

section
/-! PROOFS. The obligations of 44_rs_si. -/

open Sys2Proof Sys2Proof.Machine

/-- Settles O39: the four instructions replace one byte and differ in the new byte and the code they make of the old
one. -/
theorem immediateBytes : Obligations.ImmediateBytes := by
  unfold Obligations.ImmediateBytes
  rintro s i i2 b1 d1 a u v c rfl hwrite hu hi
  rcases hi with ⟨rfl, rfl, rfl⟩ | ⟨rfl, rfl, rfl⟩ | ⟨rfl, rfl, rfl⟩ | ⟨rfl, rfl, rfl⟩
  · exact State.withUpdate_replaced hwrite hu (· &&& i2) fun v => ccLogic (v &&& i2)
  · exact State.withUpdate_replaced hwrite hu (· ||| i2) fun v => ccLogic (v ||| i2)
  · exact State.withUpdate_replaced hwrite hu (· ^^^ i2) fun v => ccLogic (v ^^^ i2)
  · exact State.withUpdate_replaced hwrite hu (fun _ => 0xFF) fun v => if v.msb then 1 else 0

/-- Settles O40: three shifts complete; SLA ends as a fixed-point result of which only the code and the condition depend
on whether the product fits. -/
theorem singleShifts : Obligations.SingleShifts := by
  unfold Obligations.SingleShifts
  rintro s r1 b2 d2 n v r hn rfl hr
  obtain rfl : n = s.shiftAmount d2 b2 := hn
  obtain rfl : r = shiftedBesideSign (s.gpr r1) (s.shiftAmount d2 b2) := hr
  have hsla : exec (.sla r1 b2 d2) s = s.finishArith r1 (shiftLeftArith (s.gpr r1) (s.shiftAmount d2 b2)) := rfl
  refine ⟨?srl, ?sll, ?sra, fun hfits => ?fits, fun hwide hmask => ?masked, fun hwide hmask hifr => ?unmasked⟩
  case srl => rw [← shiftRightLogical_eq]; rfl
  case sll => rw [← shiftLeftLogical_eq]; rfl
  case sra => rw [← shiftRightArith_eq]; rfl
  case fits =>
    rw [hsla, shiftLeftArith_of_fits (by decide) (fitsSigned_iff.mpr hfits)]
    exact finishArith_of_fits ..
  case masked =>
    rw [hsla, shiftLeftArith_of_overflow (by decide) (mt fitsSigned_iff.mp hwide)]
    exact finishArith_of_masked _ _ _ _ hmask
  case unmasked =>
    rw [hsla, shiftLeftArith_of_overflow (by decide) (mt fitsSigned_iff.mp hwide)]
    exact finishArith_of_unmasked _ _ _ _ hmask hifr

/-- Settles O41: behind the check of the register number, the shifts of O40 on the pair. -/
theorem doubleShifts : Obligations.DoubleShifts := by
  unfold Obligations.DoubleShifts
  rintro s r1 b2 d2 n v r heven hn hv hr
  obtain rfl : n = s.shiftAmount d2 b2 := hn
  obtain rfl : v = s.pair r1 := hv
  obtain rfl : r = shiftedBesideSign (s.pair r1) (s.shiftAmount d2 b2) := hr
  have hslda : exec (.slda r1 b2 d2) s = s.finishArithPair r1 (shiftLeftArith (s.pair r1) (s.shiftAmount d2 b2)) :=
    State.withEven_of_even heven _
  refine ⟨?srdl, ?sldl, ?srda, fun hfits => ?fits, fun hwide hmask => ?masked, fun hwide hmask hifr => ?unmasked⟩
  case srdl => rw [← shiftRightLogical_eq]; exact State.withEven_of_even heven _
  case sldl => rw [← shiftLeftLogical_eq]; exact State.withEven_of_even heven _
  case srda => rw [← shiftRightArith_eq]; exact State.withEven_of_even heven _
  case fits =>
    rw [hslda, shiftLeftArith_of_fits (by decide) (fitsSigned_iff.mpr hfits)]
    exact finishArithPair_of_fits ..
  case masked =>
    rw [hslda, shiftLeftArith_of_overflow (by decide) (mt fitsSigned_iff.mp hwide)]
    exact finishArithPair_of_masked _ _ _ _ hmask
  case unmasked =>
    rw [hslda, shiftLeftArith_of_overflow (by decide) (mt fitsSigned_iff.mp hwide)]
    exact finishArithPair_of_unmasked _ _ _ _ hmask hifr

/-- Settles O42: the walks over registers and words, and what a termination frees; the operand is one field, whose
addressing is checked before its protection. -/
theorem multipleRegisters : Obligations.MultipleRegisters := by
  unfold Obligations.MultipleRegisters
  rintro s r1 r3 b2 d2 a k rfl hk
  obtain rfl : k = registerCount r1 r3 := hk
  have hcount : registerCount r1 r3 ≤ 16 := (r3 - r1).isLt
  refine ⟨fun ha hf hg => ?loads, fun ha hf hg => ?noValue, fun ha ho => ?stores, fun ha hifr => ?misaligned,
    fun ha hf hifr => ⟨?lmOutside, ?stmOutside⟩, fun ha hf ho hifr => ?stmProtected⟩
  case loads =>
    obtain ⟨t, ht, hgpr⟩ := State.loadRegisters_of_given (r := r1) hg hcount
    refine ⟨t.advance, exec_lm_of_given ha hf ht, ?_, hgpr⟩
    rw [State.advance, State.next_loadRegisters ht, State.loadRegisters_x_only ht]
  case noValue => exact exec_lm_of_not_given ha hf hg
  case stores =>
    exact ⟨_, exec_stm_of_openField ha ho, rfl, fun b => s.read_storeRegisters s.mem (by omega)⟩
  case misaligned =>
    rw [exec_lm_of_misaligned ha, exec_stm_of_misaligned ha, State.addressFault_eq_suppressed hifr]
    exact ⟨rfl, rfl⟩
  case lmOutside =>
    rw [exec_lm_of_fault ha (State.fieldFault_of_outside (.inl hf))]
    exact accessTerminated_freeGprs hifr ..
  case stmOutside =>
    rw [exec_stm_of_fault ha (State.fieldFault_of_outside (.inl hf))]
    exact accessTerminated_freeBytes hifr ..
  case stmProtected =>
    rw [exec_stm_of_fault ha (State.fieldFault_of_protected hf (s.field_zero 0) ho)]
    exact accessTerminated_freeBytes hifr ..
end

section
/-! PROOFS. Operations that replace a field byte by byte from the left (45_ss_logical R375): what storage holds after
`k` bytes, and the moves and the logic on fields (R361 to R367). -/

namespace Sys2Proof.Machine

variable {s : State} {a a1 a2 b : Addr} {src : Nat → Addr} {op : Nat → Byte → Byte} {j k n r : Nat} {m : Memory}

/-! ## Places in a field -/

theorem toNat_addrPlus_sub (hj : j < 2 ^ 24) : (addrPlus a j - a).toNat = j := by
  rw [addrPlus, add_sub_cancel_left, BitVec.toNat_ofNat, Nat.mod_eq_of_lt hj]

theorem addrPlus_toNat_sub (a b : Addr) : addrPlus a (b - a).toNat = b := by
  rw [addrPlus, BitVec.ofNat_toNat, BitVec.setWidth_eq, add_sub_cancel]

theorem addrPlus_ne (hk : k < 2 ^ 24) (h : (b - a).toNat ≠ k) : addrPlus a k ≠ b := by
  rintro rfl
  exact h (toNat_addrPlus_sub hk)

theorem addrPlus_succ (a : Addr) (k : Nat) : addrPlus a k + 1 = addrPlus a (k + 1) := addrPlus_addrPlus a k 1

theorem fieldIn_succ_iff {p : Addr → Prop} : FieldIn p a (k + 1) ↔ FieldIn p a k ∧ p (addrPlus a k) := by
  rw [fieldIn_add_iff]
  exact and_congr_right fun _ => ⟨FieldIn.head, fun h i hi => by
    rwa [Nat.lt_one_iff.mp hi, addrPlus_zero]⟩

theorem State.given_succ_iff : s.given a (k + 1) ↔ s.given a k ∧ s.byteAt (addrPlus a k) ≠ none :=
  fieldIn_succ_iff (p := fun b => s.byteAt b ≠ none)

theorem State.field_succ_iff : s.field a (k + 1) ↔ s.field a k ∧ (addrPlus a k).toNat < s.cfg.memSize :=
  fieldIn_succ_iff (p := s.installed)

theorem State.given_zero (s : State) (a : Addr) : s.given a 0 := fun _ hi => absurd hi (Nat.not_lt_zero _)

/-- A field that lies in storage and cannot be stored into has a protected byte. -/
theorem State.storeAllowed_eq_false (h : s.field a n) (ho : ¬ s.openField a n) : s.storeAllowed a n = false := by
  rw [State.openField_iff, State.inStorage_iff_field, not_and, Bool.not_eq_true] at ho
  exact ho h

theorem State.storeAllowed_of_openField (h : s.openField a n) : s.storeAllowed a n = true := by
  obtain ⟨-, hallowed⟩ := State.openField_iff.mp h
  exact hallowed

/-- A property that holds at first and fails in the end fails first at some step. -/
theorem exists_first_failure {p : Nat → Prop} (h0 : p 0) (hn : ¬ p n) : ∃ k < n, p k ∧ ¬ p (k + 1) := by
  induction n with
  | zero => exact absurd h0 hn
  | succ n ih =>
    by_cases h : p n
    · exact ⟨n, n.lt_succ_self, h, hn⟩
    · obtain ⟨k, hk, hfirst⟩ := ih h
      exact ⟨k, by omega, hfirst⟩

/-! ## Storage after `k` bytes -/

/-- `m` is the storage of `s` with the first `k` bytes at `a` replaced from the left: byte `j` by `op j` of the byte at
`src j` as it stands when `j` bytes are stored. -/
structure State.ReplacedRightward (s : State) (a : Addr) (src : Nat → Addr) (op : Nat → Byte → Byte) (k : Nat)
    (m : Memory) : Prop where
  stored : ∀ j < k, m.read (addrPlus a j) = some (op j (seenRightward s (s.setMem m) a j (src j)))
  kept : ∀ b : Addr, k ≤ (b - a).toNat → m.read b = s.byteAt b

theorem State.ReplacedRightward.refl (s : State) (a : Addr) (src : Nat → Addr) (op : Nat → Byte → Byte) :
    s.ReplacedRightward a src op 0 s.mem := ⟨nofun, fun _ _ => rfl⟩

/-- A byte read after `k` steps is the one the statements name. -/
theorem State.ReplacedRightward.read_of_given (h : s.ReplacedRightward a src op k m) (hb : s.givenRightward a k b) :
    m.read b = some (seenRightward s (s.setMem m) a k b) := by
  unfold seenRightward
  split
  · next hin =>
    have hread := h.stored _ hin
    rw [addrPlus_toNat_sub] at hread
    rw [hread, State.byteVal_of_byteAt (s := s.setMem m) hread]
  · next hout =>
    rw [h.kept b (by omega)]
    exact State.read_of_ne_none (hb.resolve_left hout)

theorem State.ReplacedRightward.read_of_not_given (h : s.ReplacedRightward a src op k m)
    (hb : ¬ s.givenRightward a k b) : m.read b = none := by
  rw [State.givenRightward, not_or, not_ne_iff, Nat.not_lt] at hb
  obtain ⟨hout, hnone⟩ := hb
  rw [h.kept b hout, hnone]

/-- The byte of the field that comes next is as it was. -/
theorem State.ReplacedRightward.read_next (h : s.ReplacedRightward a src op k m) (hk : k < 2 ^ 24) :
    m.read (addrPlus a k) = s.byteAt (addrPlus a k) :=
  h.kept _ (toNat_addrPlus_sub hk).ge

/-- Later bytes do not change what an earlier step has seen. -/
theorem seenRightward_write (hk : k < 2 ^ 24) (hj : j ≤ k) (v : Byte) :
    seenRightward s (s.setMem (m.write (addrPlus a k) v)) a j b = seenRightward s (s.setMem m) a j b := by
  unfold seenRightward
  split
  · simp only [State.byteVal, State.byteAt_setMem]
    rw [Memory.read_write_ne _ _ _ _ (addrPlus_ne hk (by omega))]
  · rfl

theorem State.ReplacedRightward.write (h : s.ReplacedRightward a src op k m) (hk : k < 2 ^ 24) :
    s.ReplacedRightward a src op (k + 1)
      (m.write (addrPlus a k) (op k (seenRightward s (s.setMem m) a k (src k)))) := by
  refine ⟨fun j hj => ?_, fun b hb => ?_⟩
  · rw [seenRightward_write hk (by omega)]
    rcases Nat.lt_succ_iff_lt_or_eq.mp hj with hlt | rfl
    · rw [Memory.read_write_ne _ _ _ _ (addrPlus_ne hk (by rw [toNat_addrPlus_sub (by omega)]; omega))]
      exact h.stored j hlt
    · exact Memory.read_write_self ..
  · rw [Memory.read_write_ne _ _ _ _ (addrPlus_ne hk (by omega))]
    exact h.kept b (by omega)

/-! ## The moves and the logic on fields -/

section Fields

variable {w : FieldForm} {i : Instr}

/-- The byte function of a field instruction as the model has it: none where a byte that is read has no value. -/
def FieldForm.combine (w : FieldForm) (t : Option Byte) (v : Byte) : Option Byte :=
  if w.readsFirst = true ∧ t = none then none else some (w.op (t.getD 0) v)

/-- Every byte that the first `k` steps read has a value. -/
def FieldForm.Ready (w : FieldForm) (s : State) (k : Nat) : Prop :=
  (w.readsFirst = true → s.given w.a1 k) ∧ ∀ j < k, s.givenRightward w.a1 j (addrPlus w.a2 j)

/-- Storage after `k` steps, from the operands. -/
abbrev FieldForm.Replaced (w : FieldForm) (s : State) (k : Nat) (m : Memory) : Prop :=
  s.ReplacedRightward w.a1 (addrPlus w.a2) (fun j => w.op (s.byteVal (addrPlus w.a1 j))) k m

theorem FieldForm.ready_zero (w : FieldForm) (s : State) : w.Ready s 0 := ⟨fun _ => s.given_zero _, nofun⟩

theorem FieldForm.ready_succ_iff : w.Ready s (k + 1) ↔ w.Ready s k ∧
    (w.readsFirst = true → s.byteAt (addrPlus w.a1 k) ≠ none) ∧ s.givenRightward w.a1 k (addrPlus w.a2 k) := by
  simp only [FieldForm.Ready, State.given_succ_iff, Nat.forall_lt_succ_right]
  tauto

/-- The byte that step `k` stores. -/
theorem FieldForm.combine_of_ready (h : w.Replaced s k m) (hk : k < 2 ^ 24) (hready : w.Ready s (k + 1)) :
    (m.read (addrPlus w.a2 k)).bind (w.combine (m.read (addrPlus w.a1 k))) =
      some (w.op (s.byteVal (addrPlus w.a1 k)) (seenRightward s (s.setMem m) w.a1 k (addrPlus w.a2 k))) := by
  obtain ⟨-, hfirst, hsecond⟩ := FieldForm.ready_succ_iff.mp hready
  rw [h.read_of_given hsecond, h.read_next hk, Option.bind_some, FieldForm.combine, if_neg (by tauto)]
  rfl

theorem FieldForm.combine_of_not_ready (h : w.Replaced s k m) (hk : k < 2 ^ 24) (hready : w.Ready s k)
    (hnot : ¬ w.Ready s (k + 1)) :
    (m.read (addrPlus w.a2 k)).bind (w.combine (m.read (addrPlus w.a1 k))) = none := by
  by_cases hsecond : s.givenRightward w.a1 k (addrPlus w.a2 k)
  · have hfirst : w.readsFirst = true ∧ s.byteAt (addrPlus w.a1 k) = none := by
      by_contra hgiven
      exact hnot (FieldForm.ready_succ_iff.mpr ⟨hready, by tauto, hsecond⟩)
    rw [h.read_of_given hsecond, h.read_next hk, Option.bind_some, FieldForm.combine, if_pos hfirst]
  · rw [h.read_of_not_given hsecond, Option.bind_none]

/-- The walk over bytes that have values: `k` steps of it, whatever is left to do. -/
theorem FieldForm.combineBytes_of_ready (hk : k ≤ 2 ^ 24) (hready : w.Ready s k) :
    ∃ m, w.Replaced s k m ∧ ∀ r, combineBytes w.combine (k + r) s.mem w.a1 w.a2 =
      combineBytes w.combine r m (addrPlus w.a1 k) (addrPlus w.a2 k) := by
  induction k with
  | zero => exact ⟨s.mem, .refl .., fun r => by rw [Nat.zero_add, addrPlus_zero, addrPlus_zero]⟩
  | succ k ih =>
    obtain ⟨hbefore, -⟩ := FieldForm.ready_succ_iff.mp hready
    obtain ⟨m, hm, hwalk⟩ := ih (by omega) hbefore
    refine ⟨_, hm.write (by omega), fun r => ?_⟩
    rw [Nat.add_right_comm, Nat.add_assoc, hwalk, combineBytes, FieldForm.combine_of_ready hm (by omega) hready,
      ← addrPlus_succ, ← addrPlus_succ]

theorem FieldForm.combineBytes_of_not_ready (hn : n ≤ 2 ^ 24) (hnot : ¬ w.Ready s n) :
    combineBytes w.combine n s.mem w.a1 w.a2 = none := by
  obtain ⟨k, hk, hready, hfails⟩ := exists_first_failure (w.ready_zero s) hnot
  obtain ⟨m, hm, hwalk⟩ := FieldForm.combineBytes_of_ready (by omega) hready
  obtain ⟨r, rfl⟩ : ∃ r, n = k + (r + 1) := ⟨n - k - 1, by omega⟩
  rw [hwalk, combineBytes, FieldForm.combine_of_not_ready hm (by omega) hready hfails]

/-! ## The instructions -/

/-- The state with the result fields of a field instruction free. -/
def FieldForm.freed (w : FieldForm) (s : State) : State :=
  if w.setsCC then (s.freeBytes w.a1 w.n).freeCC else s.freeBytes w.a1 w.n

/-- The state after the result was stored. -/
def FieldForm.finished (w : FieldForm) (s : State) (m : Memory) : State :=
  if w.setsCC then (s.setMem m).setCC (if m.value w.a1 w.n = some 0 then 0 else 1) else s.setMem m

theorem FieldForm.combine_of_readsFirst (h : w.readsFirst = true) : w.combine = ofBoth w.op := by
  funext t v
  cases t <;> simp [FieldForm.combine, ofBoth, h]

theorem exec_of_fieldForm (hw : s.fieldForm i = some w) : w.n ≤ 256 ∧ exec i s =
    (w.freed s).withStorage (s.combineFields w.n w.a1 w.a2 w.combine) fun m => (w.finished s m).complete := by
  cases i with
  | mvc l => cases hw; exact ⟨l.isLt, rfl⟩
  | mvn l | mvz l | nc l | oc l | xc l =>
    rw [FieldForm.combine_of_readsFirst (by cases hw; rfl)]
    cases hw
    exact ⟨l.isLt, rfl⟩
  | _ => cases hw

end Fields

end Sys2Proof.Machine
end

section
/-! PROOFS. TR as a walk from the left (45_ss_logical R369). -/

namespace Sys2Proof.Machine

variable {s : State} {a1 a2 : Addr} {k n size : Nat} {m : Memory}

/-! ## The function byte of an argument byte -/

/-- Where the function byte of argument byte `j` stands (R369, R370). -/
def State.functionAddr (s : State) (a1 a2 : Addr) (j : Nat) : Addr := tableAddr a2 (s.byteVal (addrPlus a1 j))

theorem State.functionAddr_eq (s : State) (a1 a2 : Addr) (j : Nat) :
    s.functionAddr a1 a2 j = a2 + BitVec.ofNat 24 (s.byteVal (a1 + BitVec.ofNat 24 j)).toNat := by
  rw [functionAddr, tableAddr, BitVec.ofNat_toNat]
  rfl

theorem tableByte_of_none (h : m.read a1 = none) : tableByte size m a1 a2 = .error .noValue := by
  rw [tableByte, h]

/-- The access to a function byte, the argument byte being the one `s` has. -/
theorem State.tableByte_of_given (hg : s.byteAt (addrPlus a1 k) ≠ none)
    (hm : m.read (addrPlus a1 k) = s.byteAt (addrPlus a1 k)) : tableByte size m (addrPlus a1 k) a2 =
      if size ≤ (s.functionAddr a1 a2 k).toNat then .error (.address .addressing)
      else givenOr (m.read (s.functionAddr a1 a2 k)) := by
  have harg : m.read (addrPlus a1 k) = some (s.byteVal (addrPlus a1 k)) := hm.trans (State.read_of_ne_none hg)
  rw [tableByte, harg]
  rfl

/-! ## The walk -/

/-- The first `k` argument bytes have values, and so have their function bytes, which lie in storage. -/
def State.TableReady (s : State) (a1 a2 : Addr) (k : Nat) : Prop :=
  s.given a1 k ∧ ∀ j < k, (s.functionAddr a1 a2 j).toNat < s.cfg.memSize ∧
    s.givenRightward a1 j (s.functionAddr a1 a2 j)

/-- Storage after `k` argument bytes were replaced. -/
abbrev State.Translated (s : State) (a1 a2 : Addr) (k : Nat) (m : Memory) : Prop :=
  s.ReplacedRightward a1 (s.functionAddr a1 a2) (fun _ v => v) k m

theorem State.tableReady_zero (s : State) (a1 a2 : Addr) : s.TableReady a1 a2 0 := ⟨s.given_zero _, nofun⟩

theorem State.tableReady_succ_iff : s.TableReady a1 a2 (k + 1) ↔ s.TableReady a1 a2 k ∧
    s.byteAt (addrPlus a1 k) ≠ none ∧ (s.functionAddr a1 a2 k).toNat < s.cfg.memSize ∧
    s.givenRightward a1 k (s.functionAddr a1 a2 k) := by
  simp only [State.TableReady, State.given_succ_iff, Nat.forall_lt_succ_right]
  tauto

/-- The byte that step `k` stores. -/
theorem State.Translated.tableByte (h : s.Translated a1 a2 k m) (hk : k < 2 ^ 24)
    (hready : s.TableReady a1 a2 (k + 1)) : tableByte s.cfg.memSize m (addrPlus a1 k) a2 =
      .ok (seenRightward s (s.setMem m) a1 k (s.functionAddr a1 a2 k)) := by
  obtain ⟨-, harg, hin, hfunction⟩ := State.tableReady_succ_iff.mp hready
  rw [State.tableByte_of_given harg (h.read_next hk), if_neg (by omega), h.read_of_given hfunction]
  rfl

/-- The walk over bytes that are ready: `k` steps of it, whatever is left to do. -/
theorem State.translateBytes_of_ready (hk : k ≤ 2 ^ 24) (hready : s.TableReady a1 a2 k) :
    ∃ m, s.Translated a1 a2 k m ∧ ∀ r, translateBytes s.cfg.memSize a2 (k + r) s.mem a1 =
      translateBytes s.cfg.memSize a2 r m (addrPlus a1 k) := by
  induction k with
  | zero => exact ⟨s.mem, .refl .., fun r => by rw [Nat.zero_add, addrPlus_zero]⟩
  | succ k ih =>
    obtain ⟨hbefore, -⟩ := State.tableReady_succ_iff.mp hready
    obtain ⟨m, hm, hwalk⟩ := ih (by omega) hbefore
    refine ⟨_, hm.write (by omega), fun r => ?_⟩
    rw [Nat.add_right_comm, Nat.add_assoc, hwalk, translateBytes, hm.tableByte (by omega) hready, ← addrPlus_succ]

section Stops

variable (hn : n ≤ 2 ^ 24) (hk : k < n) (hready : s.TableReady a1 a2 k)
include hn hk hready

/-- The stop of a step is that of the walk. -/
theorem State.translateBytes_of_stop {stop : Stop}
    (hstop : ∀ m, s.Translated a1 a2 k m → tableByte s.cfg.memSize m (addrPlus a1 k) a2 = .error stop) :
    translateBytes s.cfg.memSize a2 n s.mem a1 = .error stop := by
  obtain ⟨m, hm, hwalk⟩ := State.translateBytes_of_ready (by omega) hready
  obtain ⟨r, rfl⟩ : ∃ r, n = k + (r + 1) := ⟨n - k - 1, by omega⟩
  rw [hwalk, translateBytes, hstop m hm]

theorem State.translateBytes_of_outside (harg : s.byteAt (addrPlus a1 k) ≠ none)
    (hout : s.cfg.memSize ≤ (s.functionAddr a1 a2 k).toNat) :
    translateBytes s.cfg.memSize a2 n s.mem a1 = .error (.address .addressing) :=
  State.translateBytes_of_stop hn hk hready fun _ hm => by
    rw [State.tableByte_of_given harg (hm.read_next (by omega)), if_pos hout]

theorem State.translateBytes_of_not_given (hnone : s.byteAt (addrPlus a1 k) = none ∨
    (s.functionAddr a1 a2 k).toNat < s.cfg.memSize ∧ ¬ s.givenRightward a1 k (s.functionAddr a1 a2 k)) :
    translateBytes s.cfg.memSize a2 n s.mem a1 = .error .noValue :=
  State.translateBytes_of_stop hn hk hready fun _ hm => by
    by_cases harg : s.byteAt (addrPlus a1 k) = none
    · exact tableByte_of_none ((hm.read_next (by omega)).trans harg)
    · obtain ⟨hin, hfunction⟩ := hnone.resolve_left harg
      rw [State.tableByte_of_given harg (hm.read_next (by omega)), if_neg (by omega),
        hm.read_of_not_given hfunction]
      rfl

end Stops

/-! ## The translation behind its checks -/

theorem exec_tr (l : Byte) (b1 : RegNum) (d1 : Disp) (b2 : RegNum) (d2 : Disp) (s : State) :
    exec (.tr l b1 d1 b2 d2) s = (s.freeBytes (s.eab d1 b1) (l.toNat + 1)).withStorage
      (s.translate (l.toNat + 1) (s.eab d1 b1) (s.eab d2 b2)) fun m => (s.setMem m).complete := rfl

theorem State.translate_of_outside (h : ¬ s.field a1 n) : s.translate n a1 a2 = .error (.address .addressing) :=
  if_pos (State.inStorage_eq_false_iff.mpr h)

theorem State.translate_of_stop {stop : Stop} (h : s.field a1 n)
    (hstop : translateBytes s.cfg.memSize a2 n s.mem a1 = .error stop) :
    s.translate n a1 a2 = .error (stop.afterProtection !s.storeAllowed a1 n) := by
  rw [State.translate, State.inStorage_iff_field.mpr h, if_neg nofun, hstop]

theorem State.translate_of_done (h : s.field a1 n) (hm : translateBytes s.cfg.memSize a2 n s.mem a1 = .ok m) :
    s.translate n a1 a2 = if s.storeAllowed a1 n then .ok m else .error (.address .protect) := by
  rw [State.translate, State.inStorage_iff_field.mpr h, if_neg nofun, hm]

/-- Whether or not every byte that is read has a value, the protected field comes before. -/
theorem State.translate_of_protected (hn : n ≤ 2 ^ 24) (hf : s.field a1 n) (ho : ¬ s.openField a1 n)
    (hg : s.given a1 n) (hin : ∀ j < n, (s.functionAddr a1 a2 j).toNat < s.cfg.memSize) :
    s.translate n a1 a2 = .error (.address .protect) := by
  have hprotected := State.storeAllowed_eq_false hf ho
  by_cases hready : s.TableReady a1 a2 n
  · obtain ⟨m, -, hwalk⟩ := State.translateBytes_of_ready hn hready
    rw [State.translate_of_done hf (hwalk 0), hprotected, if_neg Bool.false_ne_true]
  · obtain ⟨k, hk, hbefore, hfails⟩ := exists_first_failure (s.tableReady_zero a1 a2) hready
    have hnone : ¬ s.givenRightward a1 k (s.functionAddr a1 a2 k) := fun hfunction =>
      hfails (State.tableReady_succ_iff.mpr ⟨hbefore, hg k hk, hin k hk, hfunction⟩)
    rw [State.translate_of_stop hf (State.translateBytes_of_not_given hn hk hbefore (.inr ⟨hin k hk, hnone⟩)),
      hprotected]
    rfl

end Sys2Proof.Machine
end

section
/-! PROOFS. How the instructions on fields end when they stop: the result fields free, the condition taken
(00_scope R12, 45_ss_logical R375, 60_exceptions R429). -/

namespace Sys2Proof.Machine

variable {s u : State} {a : Addr} {n bit : Nat} {c : Condition} {info : Info}

/-- `u` is `s` with the `n` bytes from `a` on and `cc` holding any value. -/
structure State.FieldFreed (s u : State) (a : Addr) (n : Nat) : Prop where
  rest : u = { s with mem := u.mem, cc := u.cc, draws := u.draws }
  outside : ∀ b : Addr, n ≤ (b - a).toNat → u.byteAt b = s.byteAt b

theorem State.FieldFreed.freeBytes (s : State) (a : Addr) (n : Nat) : s.FieldFreed (s.freeBytes a n) a n := by
  refine ⟨?_, fun b hb => s.byteAt_freeBytes hb⟩
  rw [State.freeBytes_mem_draws_only]

theorem State.FieldFreed.freeCC (h : s.FieldFreed u a n) : s.FieldFreed u.freeCC a n := by
  obtain ⟨hrest, houtside⟩ := h
  refine ⟨?_, houtside⟩
  conv_lhs => rw [hrest]
  rfl

theorem State.FieldFreed.freeGprLow (h : s.FieldFreed u a n) (r : RegNum) (k : Nat) :
    { s with x := (u.freeGprLow r k).x }.FieldFreed (u.freeGprLow r k) a n := by
  obtain ⟨hrest, houtside⟩ := h
  obtain ⟨mem, cc, draws, rfl⟩ : ∃ mem cc draws, u = { s with mem := mem, cc := cc, draws := draws } := ⟨_, _, _, hrest⟩
  exact ⟨rfl, houtside⟩

theorem State.FieldFreed.refl (s : State) (a : Addr) (n : Nat) : s.FieldFreed s a n := ⟨rfl, fun _ _ => rfl⟩

theorem State.FieldFreed.ifr_eq (h : s.FieldFreed u a n) : u.ifr = s.ifr := by rw [h.rest]

theorem State.FieldFreed.x_eq (h : s.FieldFreed u a n) : u.x = s.x := by rw [h.rest]

/-- With nothing pending, the condition of the stop is the one taken. -/
theorem terminateBy_eq_suppressed (hifr : u.ifr = 0) (c : Condition) (info : Info) :
    terminateBy u (.raised c info) = .next (u.suppressed (c.priority - 1) c info) :=
  State.suppress_eq_suppressed hifr c info

theorem State.FieldFreed.terminatedField (h : s.FieldFreed u a n) :
    s.terminatedField (u.suppressed bit c info) a n bit c info := by
  obtain ⟨hrest, houtside⟩ := h
  refine ⟨?_, houtside⟩
  have hnext : u.next = s.next := by rw [hrest]; rfl
  rw [State.suppressed, hnext]
  conv_lhs => rw [hrest]
  rfl

/-- A termination that frees general registers too. -/
theorem State.FieldFreed.terminated (h : { s with x := u.x }.FieldFreed u a n) (hifr : s.ifr = 0) (c : Condition)
    (info : Info) : ∃ t, terminateBy u (.raised c info) = .next t ∧
      { s with x := t.x }.terminatedField t a n (c.priority - 1) c info ∧ t.x = u.x :=
  ⟨_, terminateBy_eq_suppressed (h.ifr_eq.trans hifr) c info, h.terminatedField, rfl⟩

theorem State.gpr_congr {t : State} (h : t.x = u.x) (q : RegNum) : t.gpr q = u.gpr q := by
  rw [State.gpr, h, State.gpr]

/-- The field instructions free their first operand, and `cc` where they set it. -/
theorem FieldForm.fieldFreed (w : FieldForm) (s : State) : s.FieldFreed (w.freed s) w.a1 w.n := by
  unfold FieldForm.freed
  split
  · exact (State.FieldFreed.freeBytes ..).freeCC
  · exact .freeBytes ..

theorem FieldForm.freed_cc (w : FieldForm) (s : State) (h : w.setsCC = false) : (w.freed s).cc = s.cc := by
  rw [FieldForm.freed, h]
  exact s.freeBytes_cc ..

theorem FieldForm.exists_terminated (w : FieldForm) (hifr : s.ifr = 0) (cause : AddressCause) :
    ∃ t, accessTerminated (w.freed s) cause = .next t ∧
      s.terminatedField t w.a1 w.n 23 .addressError (.address cause) ∧ (w.setsCC = false → t.cc = s.cc) :=
  ⟨_, accessTerminated_eq_suppressed ((w.fieldFreed s).ifr_eq.trans hifr) cause, (w.fieldFreed s).terminatedField,
    w.freed_cc s⟩

end Sys2Proof.Machine
end

section
/-! PROOFS. A field as one number, the leftmost byte first (20_memory R51): when it is zero, and how two fields compare
(40_rr_general R124, 45_ss_logical R364 to R367). -/

namespace Sys2Proof.Machine

variable {f g : Nat → Byte} {k n : Nat} {s : State} {a : Addr}

/-- The number that the first `n` bytes of `f` make up. -/
def fieldNumber (f : Nat → Byte) (n : Nat) : Nat := natOfBytes ((List.range n).map f)

theorem fieldNumber_zero (f : Nat → Byte) : fieldNumber f 0 = 0 := rfl

theorem fieldNumber_succ (f : Nat → Byte) (n : Nat) :
    fieldNumber f (n + 1) = 256 * fieldNumber f n + (f n).toNat := by
  simp [fieldNumber, natOfBytes, List.range_succ]

theorem State.value_of_given (h : s.given a n) :
    s.mem.value a n = some (fieldNumber (fun j => s.byteVal (a + BitVec.ofNat 24 j)) n) := by
  rw [Memory.value, State.bytes_of_given h]
  rfl

theorem fieldNumber_eq_zero_iff : fieldNumber f n = 0 ↔ ∀ j < n, f j = 0 := by
  induction n with
  | zero => simp [fieldNumber_zero]
  | succ n ih =>
    have hbyte : f n = 0 ↔ (f n).toNat = 0 := BitVec.toNat_inj.symm
    rw [fieldNumber_succ, Nat.forall_lt_succ_right, ← ih, hbyte]
    omega

theorem fieldNumber_congr (h : ∀ j < n, f j = g j) : fieldNumber f n = fieldNumber g n := by
  rw [fieldNumber, fieldNumber, List.map_congr_left fun j hj => h j (List.mem_range.mp hj)]

/-- The first unequal byte decides: those right of it weigh less. -/
theorem fieldNumber_lt (hk : k < n) (h : ∀ j < k, f j = g j) (hlt : (f k).toNat < (g k).toNat) :
    fieldNumber f n < fieldNumber g n := by
  induction n, hk using Nat.le_induction with
  | base =>
    rw [fieldNumber_succ, fieldNumber_succ, fieldNumber_congr h]
    omega
  | succ n _ ih =>
    have hbyte := (f n).isLt
    rw [fieldNumber_succ, fieldNumber_succ]
    omega

theorem compareLogical_self (v : Nat) : compareLogical v v = 0 := if_pos rfl

theorem compareLogical_fieldNumber (hk : k < n) (h : ∀ j < k, f j = g j) (hne : f k ≠ g k) :
    compareLogical (fieldNumber f n) (fieldNumber g n) = if (f k).ult (g k) then 1 else 2 := by
  have hne' : (f k).toNat ≠ (g k).toNat := fun he => hne (BitVec.eq_of_toNat_eq he)
  unfold compareLogical compareInt
  by_cases hlt : (f k).toNat < (g k).toNat
  · have hless := fieldNumber_lt hk h hlt
    rw [if_neg (by omega), if_pos (by omega), if_pos (by simpa [BitVec.ult] using hlt)]
  · have hmore := fieldNumber_lt hk (fun j hj => (h j hj).symm) (by omega)
    rw [if_neg (by omega), if_neg (by omega), if_neg (by simpa [BitVec.ult] using hlt)]

/-- The code of NC, OC and XC tells whether every byte of the result is zero. -/
theorem FieldForm.finished_cc {w : FieldForm} {m : Memory} (hg : (s.setMem m).given w.a1 w.n) (hw : w.setsCC = true) :
    (w.finished s m).cc = 0 ∧ (∀ j < w.n, (s.setMem m).byteVal (w.a1 + BitVec.ofNat 24 j) = 0) ∨
      (w.finished s m).cc = 1 ∧ ∃ j < w.n, (s.setMem m).byteVal (w.a1 + BitVec.ofNat 24 j) ≠ 0 := by
  have hvalue := State.value_of_given hg
  rw [State.setMem_mem] at hvalue
  rw [FieldForm.finished, if_pos hw]
  by_cases hzero : fieldNumber (fun j => (s.setMem m).byteVal (w.a1 + BitVec.ofNat 24 j)) w.n = 0
  · rw [if_pos (by rw [hvalue, hzero])]
    exact .inl ⟨rfl, fieldNumber_eq_zero_iff.mp hzero⟩
  · rw [if_neg (by rw [hvalue, Option.some_inj]; exact hzero)]
    rw [fieldNumber_eq_zero_iff] at hzero
    push Not at hzero
    exact .inr ⟨rfl, hzero⟩

end Sys2Proof.Machine
end

section
/-! PROOFS. CLC and the scan of TRT (45_ss_logical R365, R370), and what a termination of TRT, ED or EDMK leaves of the
general registers. -/

namespace Sys2Proof.Machine

variable {s : State} {a1 a2 : Addr} {k n r : Nat} {l : Byte} {b1 b2 : RegNum} {d1 d2 : Disp}

/-! ## CLC behind its checks -/

theorem exec_clc (l : Byte) (b1 : RegNum) (d1 : Disp) (b2 : RegNum) (d2 : Disp) (s : State) :
    exec (.clc l b1 d1 b2 d2) s = execClc l b1 d1 b2 d2 s := rfl

theorem exec_clc_of_fault {c : AddressCause}
    (h : s.fieldFault (s.eab d1 b1) (l.toNat + 1) (s.eab d2 b2) (l.toNat + 1) false = some c) :
    exec (.clc l b1 d1 b2 d2) s = accessTerminated s.freeCC c := by
  rw [exec_clc, execClc, fieldLength, h]

/-- CLC reads every byte of both operands. -/
theorem exec_clc_of_field (hf : s.field (s.eab d1 b1) (l.toNat + 1)) (hf2 : s.field (s.eab d2 b2) (l.toNat + 1)) :
    exec (.clc l b1 d1 b2 d2) s = s.withValue (s.eab d1 b1) (l.toNat + 1) fun v1 =>
      s.withValue (s.eab d2 b2) (l.toNat + 1) fun v2 => (s.setCC (compareLogical v1 v2)).complete := by
  rw [exec_clc, execClc, fieldLength, State.fieldFault_of_open hf hf2 (absurd · Bool.false_ne_true)]

theorem State.withValue_of_given (h : s.given a1 n) (k : Nat → Result) :
    s.withValue a1 n k = k (fieldNumber (fun j => s.byteVal (a1 + BitVec.ofNat 24 j)) n) := by
  rw [State.withValue, State.value_of_given h]

theorem State.withValue_of_not_given (h : ¬ s.given a1 n) (k : Nat → Result) :
    s.withValue a1 n k = .refused .noValue := by
  rw [State.withValue, State.value_eq_none_iff_not_given.mpr h]

/-! ## The scan of TRT -/

/-- The first `k` argument bytes lie in storage, have values and have function bytes zero. -/
def State.ScannedZero (s : State) (a1 a2 : Addr) (k : Nat) : Prop :=
  s.field a1 k ∧ s.given a1 k ∧
    ∀ j < k, (s.functionAddr a1 a2 j).toNat < s.cfg.memSize ∧ s.byteAt (s.functionAddr a1 a2 j) = some 0

theorem State.scanFunction_outside (h : s.cfg.memSize ≤ (addrPlus a1 k).toNat) :
    s.scanFunction a2 (r + 1) (addrPlus a1 k) = .stopped (.address .addressing) := if_pos h

/-- Where the access to the function byte stops, the scan stops. -/
theorem State.scanFunction_stop {stop : Stop} (hin : (addrPlus a1 k).toNat < s.cfg.memSize)
    (h : tableByte s.cfg.memSize s.mem (addrPlus a1 k) a2 = .error stop) :
    s.scanFunction a2 (r + 1) (addrPlus a1 k) = .stopped stop := by
  rw [State.scanFunction, if_neg (by omega), h]

theorem State.scanFunction_step {v : Byte} (hin : (addrPlus a1 k).toNat < s.cfg.memSize)
    (h : tableByte s.cfg.memSize s.mem (addrPlus a1 k) a2 = .ok v) :
    s.scanFunction a2 (r + 1) (addrPlus a1 k) =
      if v = 0 then s.scanFunction a2 r (addrPlus a1 (k + 1)) else .found (addrPlus a1 k) v (r == 0) := by
  rw [State.scanFunction, if_neg (by omega), h, addrPlus_succ]

/-- An argument byte and its function byte, both with a value and in storage. -/
theorem State.tableByte_of_function {v : Byte} (hg : s.byteAt (addrPlus a1 k) ≠ none)
    (hin : (s.functionAddr a1 a2 k).toNat < s.cfg.memSize) (hv : s.byteAt (s.functionAddr a1 a2 k) = some v) :
    tableByte s.cfg.memSize s.mem (addrPlus a1 k) a2 = .ok v := by
  rw [State.tableByte_of_given hg rfl, if_neg (by omega), ← State.byteAt, hv]
  rfl

theorem State.scanFunction_skip (h : s.ScannedZero a1 a2 k) (r : Nat) :
    s.scanFunction a2 (k + r) a1 = s.scanFunction a2 r (addrPlus a1 k) := by
  induction k generalizing r with
  | zero => rw [Nat.zero_add, addrPlus_zero]
  | succ k ih =>
    obtain ⟨hf, hg, hzero⟩ := h
    obtain ⟨hfield, hlast⟩ := State.field_succ_iff.mp hf
    obtain ⟨hgiven, hbyte⟩ := State.given_succ_iff.mp hg
    obtain ⟨hin, hfunction⟩ := hzero k k.lt_succ_self
    rw [Nat.add_right_comm, Nat.add_assoc, ih ⟨hfield, hgiven, fun j hj => hzero j (by omega)⟩,
      State.scanFunction_step hlast (State.tableByte_of_function hbyte hin hfunction), if_pos rfl]

section Scan

variable (hk : k < n) (h : s.ScannedZero a1 a2 k)
include hk h

/-- The scan of `n` bytes goes on from the first byte that the zeros do not reach. -/
theorem State.exists_scanFunction_from :
    ∃ r, n = k + (r + 1) ∧ s.scanFunction a2 n a1 = s.scanFunction a2 (r + 1) (addrPlus a1 k) := by
  obtain ⟨r, rfl⟩ : ∃ r, n = k + (r + 1) := ⟨n - k - 1, by omega⟩
  exact ⟨r, rfl, State.scanFunction_skip h _⟩

theorem State.scanFunction_of_found {v : Byte} (hf : s.field a1 (k + 1)) (hg : s.given a1 (k + 1))
    (hin : (s.functionAddr a1 a2 k).toNat < s.cfg.memSize) (hv : s.byteAt (s.functionAddr a1 a2 k) = some v)
    (hne : v ≠ 0) : s.scanFunction a2 n a1 = .found (addrPlus a1 k) v (decide (k + 1 = n)) := by
  obtain ⟨r, rfl, hscan⟩ := State.exists_scanFunction_from hk h
  obtain ⟨-, harg⟩ := State.field_succ_iff.mp hf
  obtain ⟨-, hbyte⟩ := State.given_succ_iff.mp hg
  have hlast : (r == 0) = decide (k + 1 = k + (r + 1)) := by
    rw [Bool.eq_iff_iff, beq_iff_eq, decide_eq_true_iff]
    omega
  rw [hscan, State.scanFunction_step harg (State.tableByte_of_function hbyte hin hv), if_neg hne, hlast]

theorem State.scanFunction_of_outside
    (hout : ¬ s.field a1 (k + 1) ∨ s.given a1 (k + 1) ∧ s.cfg.memSize ≤ (s.functionAddr a1 a2 k).toNat) :
    s.scanFunction a2 n a1 = .stopped (.address .addressing) := by
  obtain ⟨r, -, hscan⟩ := State.exists_scanFunction_from hk h
  obtain ⟨hfield, -⟩ := h
  rw [hscan]
  by_cases hin : (addrPlus a1 k).toNat < s.cfg.memSize
  · obtain ⟨hg, hfunction⟩ := hout.resolve_left (not_not.mpr (State.field_succ_iff.mpr ⟨hfield, hin⟩))
    obtain ⟨-, hbyte⟩ := State.given_succ_iff.mp hg
    exact State.scanFunction_stop hin (by rw [State.tableByte_of_given hbyte rfl, if_pos hfunction])
  · exact State.scanFunction_outside (by omega)

theorem State.scanFunction_of_not_given (hf : s.field a1 (k + 1))
    (hnone : ¬ s.given a1 (k + 1) ∨
      (s.functionAddr a1 a2 k).toNat < s.cfg.memSize ∧ s.byteAt (s.functionAddr a1 a2 k) = none) :
    s.scanFunction a2 n a1 = .stopped .noValue := by
  obtain ⟨r, -, hscan⟩ := State.exists_scanFunction_from hk h
  obtain ⟨-, hgiven, -⟩ := h
  obtain ⟨-, hin⟩ := State.field_succ_iff.mp hf
  rw [hscan]
  refine State.scanFunction_stop hin ?_
  by_cases hbyte : s.byteAt (addrPlus a1 k) = none
  · exact tableByte_of_none hbyte
  · obtain ⟨hfunction, hvalue⟩ := hnone.resolve_left (not_not.mpr (State.given_succ_iff.mpr ⟨hgiven, hbyte⟩))
    rw [State.tableByte_of_given hbyte rfl, if_neg (by omega), ← State.byteAt, hvalue]
    rfl

end Scan

/-! ## Registers of which the rightmost bits are free -/

/-- The bits left of the `k` rightmost are those of the register as it was. -/
theorem State.toNat_freeGprLow_div (s : State) (r : RegNum) (hk : k ≤ 32) :
    ((s.freeGprLow r k).gpr r).toNat / 2 ^ k = (s.gpr r).toNat / 2 ^ k := by
  have hpow : 2 ^ k * 2 ^ (32 - k) = 2 ^ 32 := by rw [← Nat.pow_add, Nat.add_sub_cancel' hk]
  have hleft : (s.gpr r).toNat / 2 ^ k < 2 ^ (32 - k) := Nat.div_lt_of_lt_mul (hpow ▸ (s.gpr r).isLt)
  have hright : (s.draw 32).1.toNat % 2 ^ k < 2 ^ k := Nat.mod_lt _ (Nat.two_pow_pos k)
  have hlt : 2 ^ k * ((s.gpr r).toNat / 2 ^ k) + (s.draw 32).1.toNat % 2 ^ k < 2 ^ 32 := by
    calc _ < 2 ^ k * ((s.gpr r).toNat / 2 ^ k + 1) := by rw [Nat.mul_succ]; omega
      _ ≤ 2 ^ k * 2 ^ (32 - k) := Nat.mul_le_mul_left _ hleft
      _ = 2 ^ 32 := hpow
  rw [State.freeGprLow, State.gpr_setGpr_self, BitVec.toNat_ofNat, Nat.mul_comm, Nat.mod_eq_of_lt hlt,
    Nat.mul_add_div (Nat.two_pow_pos k), Nat.div_eq_of_lt hright, Nat.add_zero]

theorem State.extractLsb'_freeGprLow_of_le (s : State) (r : RegNum) {start len : Nat} (hk : k ≤ 32) (h : k ≤ start) :
    ((s.freeGprLow r k).gpr r).extractLsb' start len = (s.gpr r).extractLsb' start len := by
  obtain ⟨e, rfl⟩ := Nat.exists_eq_add_of_le h
  apply BitVec.eq_of_toNat_eq
  simp only [BitVec.extractLsb'_toNat, Nat.shiftRight_eq_div_pow, Nat.pow_add, ← Nat.div_div_eq_div_mul,
    State.toNat_freeGprLow_div s r hk]

theorem State.gpr_freeGprLow_ne (s : State) {r q : RegNum} (h : r ≠ q) (k : Nat) :
    (s.freeGprLow r k).gpr q = s.gpr q :=
  State.gpr_setGpr_ne _ _ _ _ h

/-! ## How TRT ends -/

theorem exec_trt (l : Byte) (b1 : RegNum) (d1 : Disp) (b2 : RegNum) (d2 : Disp) (s : State) :
    exec (.trt l b1 d1 b2 d2) s = execTrt l b1 d1 b2 d2 s := rfl

/-- The state with the result fields of TRT free. -/
def State.freedByTrt (s : State) : State := ((s.freeGprLow 1 24).freeGprLow 2 8).freeCC

theorem exec_trt_of_stopped {stop : Stop}
    (h : s.scanFunction (s.eab d2 b2) (l.toNat + 1) (s.eab d1 b1) = .stopped stop) :
    exec (.trt l b1 d1 b2 d2) s = terminateBy s.freedByTrt stop := by
  rw [exec_trt, execTrt, fieldLength, h]
  rfl

theorem exec_trt_of_allZero (h : s.scanFunction (s.eab d2 b2) (l.toNat + 1) (s.eab d1 b1) = .allZero) :
    exec (.trt l b1 d1 b2 d2) s = .next { s with cc := 0, pc := s.next } := by
  rw [exec_trt, execTrt, fieldLength, h]
  rfl

theorem exec_trt_of_found {a : Addr} {v : Byte} {last : Bool}
    (h : s.scanFunction (s.eab d2 b2) (l.toNat + 1) (s.eab d1 b1) = .found a v last) :
    exec (.trt l b1 d1 b2 d2) s = .next { s with
      x := (s.withGpr 1 ((s.gpr 1).extractLsb' 24 8 ++ a)).set 2 ((s.gpr 2).extractLsb' 8 24 ++ v)
      cc := if last then 2 else 1
      pc := s.next } := by
  rw [exec_trt, execTrt, fieldLength, h]
  rfl

theorem State.freedByTrt_fieldFreed (s : State) (a : Addr) :
    { s with x := s.freedByTrt.x }.FieldFreed s.freedByTrt a 0 :=
  (((State.FieldFreed.refl s a 0).freeGprLow 1 24).freeGprLow 2 8).freeCC

@[simp] theorem State.gpr_freeCC (s : State) (q : RegNum) : s.freeCC.gpr q = s.gpr q := rfl

theorem State.gpr_freedByTrt {q : RegNum} (h1 : q ≠ 1) (h2 : q ≠ 2) : s.freedByTrt.gpr q = s.gpr q := by
  rw [State.freedByTrt, State.gpr_freeCC, State.gpr_freeGprLow_ne _ h2.symm, State.gpr_freeGprLow_ne _ h1.symm]

theorem State.freedByTrt_first : (s.freedByTrt.gpr 1).extractLsb' 24 8 = (s.gpr 1).extractLsb' 24 8 := by
  rw [State.freedByTrt, State.gpr_freeCC, State.gpr_freeGprLow_ne _ (by decide),
    State.extractLsb'_freeGprLow_of_le s 1 (by decide) le_rfl]

theorem State.freedByTrt_second : (s.freedByTrt.gpr 2).extractLsb' 8 24 = (s.gpr 2).extractLsb' 8 24 := by
  rw [State.freedByTrt, State.gpr_freeCC, State.extractLsb'_freeGprLow_of_le _ 2 (by decide) le_rfl,
    State.gpr_freeGprLow_ne _ (by decide)]

end Sys2Proof.Machine
end

section
/-! PROOFS. The edit one pattern byte at a time (45_ss_logical R373): what each kind of pattern byte does, and the
digits it takes from the source (46_ss_decimal R390). -/

namespace Sys2Proof.Machine

variable {s : State} {e : Edit} {a : Addr} {p c sb : Byte} {stop : Stop}

/-! ## One pattern byte -/

theorem Edit.step_of_digit (h : e.mem.read a = some p) (hp : p = 0x20 ∨ p = 0x21) (hsb : e.sourceByte s = .ok sb) :
    e.step s a = .ok (e.digit s a p sb (if e.left then hiNibble sb else loNibble sb)) := by
  rw [Edit.step, h]
  exact (if_pos hp).trans (by rw [hsb])

theorem Edit.step_of_source_stop (h : e.mem.read a = some p) (hp : p = 0x20 ∨ p = 0x21)
    (hstop : e.sourceByte s = .error stop) : e.step s a = .error stop := by
  rw [Edit.step, h]
  exact (if_pos hp).trans (by rw [hstop])

theorem Edit.step_of_separator (h : e.mem.read a = some 0x22) :
    e.step s a = .ok { e.store s a e.fill with sig := false, nz := false } := by
  rw [Edit.step, h]
  rfl

section Message

variable (h : e.mem.read a = some c) (hdigit : ¬ (c = 0x20 ∨ c = 0x21)) (hsep : c ≠ 0x22)
include h hdigit hsep

theorem Edit.step_of_kept (hsig : e.sig = true) : e.step s a = .ok e := by
  rw [Edit.step, h]
  exact ((if_neg hdigit).trans (if_neg hsep)).trans (if_pos hsig)

theorem Edit.step_of_message (hsig : e.sig = false) : e.step s a = .ok (e.store s a e.fill) := by
  rw [Edit.step, h]
  exact ((if_neg hdigit).trans (if_neg hsep)).trans (if_neg (by simp [hsig]))

end Message

/-- With nothing significant and no digit seen, a field separator is edited like any insertion character. -/
theorem Edit.step_of_fill (h : e.mem.read a = some c) (hdigit : ¬ (c = 0x20 ∨ c = 0x21)) (hsig : e.sig = false)
    (hnz : e.nz = false) : e.step s a = .ok (e.store s a e.fill) := by
  by_cases hsep : c = 0x22
  · subst hsep
    have hsame : { e.store s a e.fill with sig := false, nz := false } = e.store s a e.fill := by
      simp only [Edit.store, hsig, hnz]
    rw [Edit.step_of_separator h, hsame]
  · exact Edit.step_of_message h hdigit hsep hsig

/-! ## The source byte -/

theorem Edit.sourceByte_of_outside (h : s.cfg.memSize ≤ e.src.toNat) :
    e.sourceByte s = .error (.address .addressing) := if_pos h

theorem Edit.sourceByte_of_invalid (hin : e.src.toNat < s.cfg.memSize) (hsb : e.mem.read e.src = some sb)
    (hleft : e.left = true) (h9 : 9 < (hiNibble sb).toNat) : e.sourceByte s = .error .data := by
  rw [Edit.sourceByte, if_neg (by omega), hsb]
  exact if_pos ⟨hleft, h9⟩

theorem Edit.sourceByte_of_valid (hin : e.src.toNat < s.cfg.memSize) (hsb : e.mem.read e.src = some sb)
    (h9 : e.left = true → (hiNibble sb).toNat ≤ 9) : e.sourceByte s = .ok sb := by
  rw [Edit.sourceByte, if_neg (by omega), hsb]
  exact if_neg fun ⟨hleft, hbad⟩ => absurd (h9 hleft) (by omega)

/-! ## The digit -/

/-- The sign codes that turn significance off (R373, R390). -/
def plusSign (g : Nat) : Bool := g == 10 || g == 12 || g == 14 || g == 15

/-- The byte of two half-bytes (R390). -/
def byteOfHalves (h g : Nat) : Byte := BitVec.ofNat 8 (16 * h + g)

section Halves

variable {d g h : Nat} (hd : d < 16) (hh : h < 16) (hg : g < 16)

include hh hg in
theorem hiNibble_byteOfHalves : hiNibble (byteOfHalves h g) = BitVec.ofNat 4 h := by
  have hall : ∀ h g : Fin 16, hiNibble (byteOfHalves h g) = BitVec.ofNat 4 h := by decide
  exact hall ⟨h, hh⟩ ⟨g, hg⟩

include hh hg in
theorem loNibble_byteOfHalves : loNibble (byteOfHalves h g) = BitVec.ofNat 4 g := by
  have hall : ∀ h g : Fin 16, loNibble (byteOfHalves h g) = BitVec.ofNat 4 g := by decide
  exact hall ⟨h, hh⟩ ⟨g, hg⟩

include hd

theorem toNat_digit : (BitVec.ofNat 4 d).toNat = d := by rw [BitVec.toNat_ofNat, Nat.mod_eq_of_lt hd]

theorem zoneCode_append (s : State) : zoneCode s.cfg.asciiMode ++ BitVec.ofNat 4 d = s.zoned d := by
  have hall : ∀ (ascii : Bool) (d : Fin 16),
      zoneCode ascii ++ BitVec.ofNat 4 d = BitVec.ofNat 8 ((if ascii then 0x50 else 0xF0) + d) := by decide
  exact hall _ ⟨d, hd⟩

theorem digit_ne_zero : (BitVec.ofNat 4 d != 0) = (d != 0) := by
  have hall : ∀ d : Fin 16, (BitVec.ofNat 4 d != 0) = (d.val != 0) := by decide
  exact hall ⟨d, hd⟩

theorem plusSign_digit : (BitVec.ofNat 4 d == 0xA || BitVec.ofNat 4 d == 0xC || BitVec.ofNat 4 d == 0xE ||
    BitVec.ofNat 4 d == 0xF) = plusSign d := by
  have hall : ∀ d : Fin 16, (BitVec.ofNat 4 d == 0xA || BitVec.ofNat 4 d == 0xC || BitVec.ofNat 4 d == 0xE ||
    BitVec.ofNat 4 d == 0xF) = plusSign d := by decide
  exact hall ⟨d, hd⟩

/-- The result byte of a digit. -/
theorem digit_byte (s : State) (sig : Bool) (f : Byte) :
    (if d != 0 || sig then zoneCode s.cfg.asciiMode ++ BitVec.ofNat 4 d else f) =
      if d = 0 ∧ sig = false then f else s.zoned d := by
  rw [zoneCode_append hd]
  by_cases h0 : d = 0 <;> cases sig <;> simp [h0]

end Halves

/-- A left half-byte taken from the source: a sign to its right is passed over with it (R373). -/
theorem Edit.digit_left {h g : Nat} (hh : h < 16) (hg : g < 16) (hleft : e.left = true) :
    e.digit s a p (byteOfHalves h g) (hiNibble (byteOfHalves h g)) =
      { e.store s a (if h = 0 ∧ e.sig = false then e.fill else s.zoned h) with
        sig := (e.sig || h != 0 || p == 0x21) && !plusSign g
        nz := e.nz || h != 0
        src := if 9 < g then e.src + 1 else e.src
        left := decide (9 < g)
        mark := if h ≠ 0 ∧ e.sig = false then some a else e.mark } := by
  simp only [Edit.digit, hiNibble_byteOfHalves hh hg, loNibble_byteOfHalves hh hg, digit_byte hh, digit_ne_zero hh,
    plusSign_digit hg, toNat_digit hg, hleft, Bool.true_and, Bool.not_true, Bool.false_or, decide_eq_true_eq,
    Bool.and_eq_true, bne_iff_ne, Bool.not_eq_true']

/-- A right half-byte taken from the source: the source byte is used up (R373). -/
theorem Edit.digit_right {h g : Nat} (hh : h < 16) (hg : g < 16) (hleft : e.left = false) :
    e.digit s a p (byteOfHalves h g) (loNibble (byteOfHalves h g)) =
      { e.store s a (if g = 0 ∧ e.sig = false then e.fill else s.zoned g) with
        sig := e.sig || g != 0 || p == 0x21
        nz := e.nz || g != 0
        src := e.src + 1
        left := true
        mark := if g ≠ 0 ∧ e.sig = false then some a else e.mark } := by
  simp only [Edit.digit, loNibble_byteOfHalves hh hg, digit_byte hg, digit_ne_zero hg, hleft, Bool.false_and,
    Bool.not_false, Bool.and_true, Bool.true_or, if_true, Bool.and_eq_true, bne_iff_ne, Bool.not_eq_true']

end Sys2Proof.Machine
end

section
/-! PROOFS. The edit from the left (45_ss_logical R373): the state of the edit after the first pattern bytes, with the
bytes they have become. -/

namespace Sys2Proof.Machine

variable {s : State} {e e' : Edit} {a a1 a2 b : Addr} {f c v : Byte} {k n : Nat} {vs : List Byte} {stop : Stop}

/-! ## The walk -/

theorem Edit.run_succ_of_step (h : e.step s a = .ok e') (r : Nat) :
    Edit.run s (r + 1) a e = Edit.run s r (a + 1) e' := by
  rw [Edit.run, h]

theorem Edit.run_succ_of_stop (h : e.step s a = .error stop) (r : Nat) :
    Edit.run s (r + 1) a e = .error (stop.afterProtection (e.blocked || !s.storeAllowed a (r + 1))) := by
  rw [Edit.run, h]

theorem State.edit_of_outside (h : ¬ s.field a1 n) : s.edit n a1 a2 = .error (.address .addressing) :=
  if_pos (State.inStorage_eq_false_iff.mpr h)

theorem State.edit_of_fill (h : s.field a1 n) (hf : s.byteAt a1 = some f) :
    s.edit n a1 a2 = Edit.run s n a1 (s.editStart f a2) := by
  rw [State.edit, State.inStorage_iff_field.mpr h, if_neg nofun, hf]

/-- An edit that goes through has read its fill character. -/
theorem State.exists_fill_of_edit_ok (h : s.edit n a1 a2 = .ok e) :
    ∃ f, s.byteAt a1 = some f ∧ Edit.run s n a1 (s.editStart f a2) = .ok e := by
  unfold State.edit at h
  split at h
  · cases h
  · split at h
    · cases h
    · next f hf => exact ⟨f, hf, h⟩

theorem State.storeAllowed_succ (s : State) (a : Addr) (k : Nat) :
    s.storeAllowed a (k + 1) = (s.storeAllowed a k && s.storeAllowedAt (addrPlus a k)) := by
  rw [Bool.eq_iff_iff, Bool.and_eq_true, State.storeAllowed_iff_fieldIn, State.storeAllowed_iff_fieldIn,
    fieldIn_succ_iff, State.storeAllowedAt_iff_unprotected]

/-! ## The state after the first pattern bytes -/

/-- The edit of the pattern at `a1` comes to `e` when the first pattern bytes have become the bytes `vs`; only bytes
that were stored can have met a protected block. -/
structure Edit.Reaches (s : State) (a1 a2 : Addr) (f : Byte) (vs : List Byte) (e : Edit) : Prop where
  run : ∀ r, Edit.run s (vs.length + r) a1 (s.editStart f a2) = Edit.run s r (addrPlus a1 vs.length) e
  holds : ∀ b : Addr, e.mem.read b = (vs[(b - a1).toNat]?).or (s.byteAt b)
  fill : e.fill = f
  blocked : e.blocked = true → s.storeAllowed a1 vs.length = false

theorem Edit.Reaches.start (s : State) (a1 a2 : Addr) (f : Byte) :
    Edit.Reaches s a1 a2 f [] (s.editStart f a2) :=
  ⟨fun r => by rw [List.length_nil, Nat.zero_add, addrPlus_zero], fun _ => rfl, rfl, nofun⟩

/-- The bytes from the next pattern byte on, and all outside the pattern, are as they were. -/
theorem Edit.Reaches.read_eq (h : Edit.Reaches s a1 a2 f vs e) (hb : vs.length ≤ (b - a1).toNat) :
    e.mem.read b = s.byteAt b := by
  rw [h.holds, List.getElem?_eq_none hb, Option.none_or]

theorem Edit.Reaches.read_next (h : Edit.Reaches s a1 a2 f vs e) (hk : vs.length < 2 ^ 24) :
    e.mem.read (addrPlus a1 vs.length) = s.byteAt (addrPlus a1 vs.length) :=
  h.read_eq (toNat_addrPlus_sub hk).ge

/-- What a stop at the next pattern byte makes of the whole edit. -/
theorem Edit.Reaches.run_of_stop (h : Edit.Reaches s a1 a2 f vs e) (hn : vs.length < n)
    (hstop : e.step s (addrPlus a1 vs.length) = .error stop) : Edit.run s n a1 (s.editStart f a2) =
      .error (stop.afterProtection
        (e.blocked || !s.storeAllowed (addrPlus a1 vs.length) (n - vs.length))) := by
  obtain ⟨r, rfl⟩ : ∃ r, n = vs.length + (r + 1) := ⟨n - vs.length - 1, by omega⟩
  rw [h.run, Edit.run_succ_of_stop hstop, Nat.add_sub_cancel_left]

theorem Edit.Reaches.run_end (h : Edit.Reaches s a1 a2 f vs e) :
    Edit.run s vs.length a1 (s.editStart f a2) = if e.blocked then .error (.address .protect) else .ok e :=
  h.run 0

/-! ## The next pattern byte -/

/-- A byte put behind the others changes no other place. -/
theorem getElem?_concat_of_ne {j : Nat} (h : j ≠ vs.length) : (vs ++ [v])[j]? = vs[j]? := by
  rcases Nat.lt_or_gt_of_ne h with hlt | hgt
  · exact List.getElem?_append_left hlt
  · rw [List.getElem?_eq_none (by rw [List.length_append, List.length_singleton]; omega),
      List.getElem?_eq_none (by omega)]

section Next

variable (h : Edit.Reaches s a1 a2 f vs e) (hk : vs.length < 2 ^ 24)
include h hk

theorem Edit.Reaches.store (hstep : e.step s (addrPlus a1 vs.length) = .ok e')
    (hmem : e'.mem = e.mem.write (addrPlus a1 vs.length) v)
    (hblocked : e'.blocked = (e.blocked || !s.storeAllowedAt (addrPlus a1 vs.length))) (hfill : e'.fill = e.fill) :
    Edit.Reaches s a1 a2 f (vs ++ [v]) e' := by
  refine ⟨fun r => ?_, fun b => ?_, hfill.trans h.fill, fun hb => ?_⟩
  · rw [List.length_append, List.length_singleton, Nat.add_assoc, Nat.add_comm 1 r, h.run,
      Edit.run_succ_of_step hstep, addrPlus_succ]
  · rw [hmem, Memory.read_write, h.holds]
    split
    · next heq =>
      rw [← heq, toNat_addrPlus_sub hk, List.getElem?_concat_length]
      rfl
    · next hne =>
      have hplace : (b - a1).toNat ≠ vs.length := fun heq => hne (heq ▸ addrPlus_toNat_sub a1 b)
      rw [getElem?_concat_of_ne hplace]
  · rw [hblocked, Bool.or_eq_true, Bool.not_eq_true'] at hb
    rw [List.length_append, List.length_singleton, State.storeAllowed_succ, Bool.and_eq_false_iff]
    exact hb.imp_left h.blocked

omit hk in
/-- A pattern byte that is left in place. -/
theorem Edit.Reaches.keep (hstep : e.step s (addrPlus a1 vs.length) = .ok e)
    (hc : s.byteAt (addrPlus a1 vs.length) = some c) : Edit.Reaches s a1 a2 f (vs ++ [c]) e := by
  refine ⟨fun r => ?_, fun b => ?_, h.fill, fun hb => ?_⟩
  · rw [List.length_append, List.length_singleton, Nat.add_assoc, Nat.add_comm 1 r, h.run,
      Edit.run_succ_of_step hstep, addrPlus_succ]
  · rw [h.holds]
    by_cases hplace : (b - a1).toNat = vs.length
    · have hb : addrPlus a1 vs.length = b := hplace ▸ addrPlus_toNat_sub a1 b
      rw [hplace, List.getElem?_eq_none le_rfl, List.getElem?_concat_length, ← hb, hc]
      rfl
    · rw [getElem?_concat_of_ne hplace]
  · rw [List.length_append, List.length_singleton, State.storeAllowed_succ, h.blocked hb, Bool.false_and]

variable (hc : s.byteAt (addrPlus a1 vs.length) = some c)
include hc

theorem Edit.Reaches.fillNext (hdigit : ¬ (c = 0x20 ∨ c = 0x21)) (hsig : e.sig = false) (hnz : e.nz = false) :
    Edit.Reaches s a1 a2 f (vs ++ [f]) (e.store s (addrPlus a1 vs.length) e.fill) :=
  h.store hk (Edit.step_of_fill ((h.read_next hk).trans hc) hdigit hsig hnz) (by rw [h.fill]; rfl) rfl rfl

end Next

/-! ## The variables of the edit -/

/-- The variables of the edit algorithm beside storage and the fill character (R373). -/
structure EditVars where
  sig : Bool
  nz : Bool
  left : Bool
  src : Addr
  mark : Option Addr

def Edit.vars (e : Edit) : EditVars := ⟨e.sig, e.nz, e.left, e.src, e.mark⟩

/-- The edit comes to these variables when the first pattern bytes have become the bytes `vs`. -/
def EditComes (s : State) (a1 a2 : Addr) (f : Byte) (vs : List Byte) (x : EditVars) : Prop :=
  ∃ e, Edit.Reaches s a1 a2 f vs e ∧ e.vars = x

theorem EditComes.start (s : State) (a1 a2 : Addr) (f : Byte) :
    EditComes s a1 a2 f [] ⟨false, false, true, a2, none⟩ := ⟨_, .start s a1 a2 f, rfl⟩

section Comes

variable {sig nz left : Bool} {src : Addr} {mark : Option Addr} (hk : vs.length < 2 ^ 24)
  (hc : s.byteAt (addrPlus a1 vs.length) = some c)
include hk hc

/-- A pattern byte that takes no digit, before any significance and digit. -/
theorem EditComes.fill (h : EditComes s a1 a2 f vs ⟨false, false, left, src, mark⟩)
    (hdigit : ¬ (c = 0x20 ∨ c = 0x21)) : EditComes s a1 a2 f (vs ++ [f]) ⟨false, false, left, src, mark⟩ := by
  obtain ⟨e, he, hvars⟩ := h
  obtain ⟨hsig, hnz, -⟩ := EditVars.mk.inj hvars
  exact ⟨_, he.fillNext hk hc hdigit hsig hnz, hvars⟩

/-- An insertion character is kept while significance is on. -/
theorem EditComes.insertion (h : EditComes s a1 a2 f vs ⟨sig, nz, left, src, mark⟩)
    (hdigit : ¬ (c = 0x20 ∨ c = 0x21)) (hsep : c ≠ 0x22) :
    EditComes s a1 a2 f (vs ++ [if sig = true then c else f]) ⟨sig, nz, left, src, mark⟩ := by
  obtain ⟨e, he, hvars⟩ := h
  obtain ⟨hsig, -⟩ := EditVars.mk.inj hvars
  have hread := (he.read_next hk).trans hc
  cases sig with
  | true => exact ⟨e, he.keep (Edit.step_of_kept hread hdigit hsep hsig) hc, hvars⟩
  | false =>
    exact ⟨_, he.store hk (Edit.step_of_message hread hdigit hsep hsig) (by rw [he.fill]; rfl) rfl rfl, hvars⟩

omit hc in
/-- A field separator starts the next field. -/
theorem EditComes.separator (h : EditComes s a1 a2 f vs ⟨sig, nz, left, src, mark⟩)
    (hc : s.byteAt (addrPlus a1 vs.length) = some 0x22) :
    EditComes s a1 a2 f (vs ++ [f]) ⟨false, false, left, src, mark⟩ := by
  obtain ⟨e, he, hvars⟩ := h
  obtain ⟨-, -, hleft, hsrc, hmark⟩ := EditVars.mk.inj hvars
  refine ⟨_, he.store hk (Edit.step_of_separator ((he.read_next hk).trans hc)) (by rw [he.fill]; rfl) rfl rfl, ?_⟩
  simp only [Edit.vars, Edit.store, hleft, hsrc, hmark]

section Digit

variable {g d : Nat} (hd : d < 16) (hg : g < 16) (hp : c = 0x20 ∨ c = 0x21)
  (hin : src.toNat < s.cfg.memSize) (hout : vs.length ≤ (src - a1).toNat)
  (hsb : s.byteAt src = some (byteOfHalves d g))
include hd hg hp hin hout hsb

theorem EditComes.leftDigit (h : EditComes s a1 a2 f vs ⟨sig, nz, true, src, mark⟩) (hvalid : d ≤ 9) :
    EditComes s a1 a2 f (vs ++ [if d = 0 ∧ sig = false then f else s.zoned d])
      { sig := (sig || d != 0 || c == 0x21) && !plusSign g
        nz := nz || d != 0
        left := decide (9 < g)
        src := if 9 < g then src + 1 else src
        mark := if d ≠ 0 ∧ sig = false then some (addrPlus a1 vs.length) else mark } := by
  obtain ⟨e, he, hvars⟩ := h
  obtain ⟨rfl, rfl, hleft, rfl, rfl⟩ := EditVars.mk.inj hvars
  have hsource : e.sourceByte s = .ok (byteOfHalves d g) := Edit.sourceByte_of_valid hin ((he.read_eq hout).trans hsb)
    fun _ => by rwa [hiNibble_byteOfHalves hd hg, toNat_digit hd]
  have hstep := Edit.step_of_digit ((he.read_next hk).trans hc) hp hsource
  rw [hleft, if_pos rfl, Edit.digit_left hd hg hleft] at hstep
  exact ⟨_, he.store hk hstep (by rw [he.fill]; rfl) rfl rfl, rfl⟩

theorem EditComes.rightDigit (h : EditComes s a1 a2 f vs ⟨sig, nz, false, src, mark⟩) :
    EditComes s a1 a2 f (vs ++ [if g = 0 ∧ sig = false then f else s.zoned g])
      { sig := sig || g != 0 || c == 0x21
        nz := nz || g != 0
        left := true
        src := src + 1
        mark := if g ≠ 0 ∧ sig = false then some (addrPlus a1 vs.length) else mark } := by
  obtain ⟨e, he, hvars⟩ := h
  obtain ⟨rfl, rfl, hleft, rfl, rfl⟩ := EditVars.mk.inj hvars
  have hsource : e.sourceByte s = .ok (byteOfHalves d g) := Edit.sourceByte_of_valid hin ((he.read_eq hout).trans hsb)
    fun hl => absurd (hleft.symm.trans hl) Bool.false_ne_true
  have hstep := Edit.step_of_digit ((he.read_next hk).trans hc) hp hsource
  rw [hleft, if_neg Bool.false_ne_true, Edit.digit_right hd hg hleft] at hstep
  exact ⟨_, he.store hk hstep (by rw [he.fill]; rfl) rfl rfl, rfl⟩

end Digit

/-- A pattern byte that takes no digit, whatever it becomes, takes nothing from the source. -/
theorem EditComes.exists_of_not_digit {x : EditVars} (h : EditComes s a1 a2 f vs x)
    (hdigit : ¬ (c = 0x20 ∨ c = 0x21)) :
    ∃ v x', EditComes s a1 a2 f (vs ++ [v]) x' ∧ x'.src = x.src ∧ x'.left = x.left := by
  by_cases hsep : c = 0x22
  · subst hsep
    exact ⟨f, _, h.separator hk hc, rfl, rfl⟩
  · exact ⟨_, x, h.insertion hk hc hdigit hsep, rfl, rfl⟩

end Comes

end Sys2Proof.Machine
end

section
/-! PROOFS. Whole edits (45_ss_logical R371 to R373): what an edit can make of its pattern, a pattern without digit
bytes, and the place of the next source digit after a number of digit bytes. -/

namespace Sys2Proof.Machine

variable {s : State} {e e' : Edit} {a a1 a2 : Addr} {f : Byte} {k n q : Nat} {vs : List Byte} {place : Addr → Prop}

/-! ## What an edit can store and mark -/

/-- Every byte is as before, the fill character or a zoned digit, and a new mark is at a place of the given set. -/
structure Edit.Edited (s : State) (place : Addr → Prop) (e e' : Edit) : Prop where
  fill : e'.fill = e.fill
  bytes : ∀ b : Addr, e'.mem.read b = e.mem.read b ∨ e'.mem.read b = some e.fill ∨
    ∃ g : Fin 16, e'.mem.read b = some (s.zoned g)
  mark : e'.mark = e.mark ∨ ∃ c, e'.mark = some c ∧ place c

theorem Edit.Edited.refl (s : State) (place : Addr → Prop) (e : Edit) : Edit.Edited s place e e :=
  ⟨rfl, fun _ => .inl rfl, .inl rfl⟩

theorem Edit.Edited.trans {e'' : Edit} (h : Edit.Edited s place e e') (h' : Edit.Edited s place e' e'') :
    Edit.Edited s place e e'' := by
  refine ⟨h'.fill.trans h.fill, fun b => ?_, ?_⟩
  · rcases h'.bytes b with hsame | hfill | hdigit
    · rw [hsame]
      exact h.bytes b
    · exact .inr (.inl (h.fill ▸ hfill))
    · exact .inr (.inr hdigit)
  · rcases h'.mark with hsame | hmarked
    · rw [hsame]
      exact h.mark
    · exact .inr hmarked

/-- A store of the fill character or of a zoned digit. -/
theorem Edit.Edited.store {v : Byte} (hmem : e'.mem = e.mem.write a v) (hfill : e'.fill = e.fill)
    (hv : v = e.fill ∨ ∃ g : Fin 16, v = s.zoned g)
    (hmark : e'.mark = e.mark ∨ ∃ c, e'.mark = some c ∧ place c) : Edit.Edited s place e e' := by
  refine ⟨hfill, fun b => ?_, hmark⟩
  rw [hmem, Memory.read_write]
  split
  · exact .inr (hv.imp (congrArg some) fun ⟨g, hg⟩ => ⟨g, congrArg some hg⟩)
  · exact .inl rfl

theorem Edit.edited_digit (s : State) (ha : place a) (p sb : Byte) (d : BitVec 4) :
    Edit.Edited s place e (e.digit s a p sb d) := by
  refine .store rfl rfl ?_ ?_
  · have hzoned := zoneCode_append d.isLt s
    rw [BitVec.ofNat_toNat, BitVec.setWidth_eq] at hzoned
    split
    · exact .inr ⟨d.toFin, hzoned⟩
    · exact .inl rfl
  · have hmark : (e.digit s a p sb d).mark = if d != 0 && !e.sig then some a else e.mark := rfl
    rw [hmark]
    split
    · exact .inr ⟨a, rfl, ha⟩
    · exact .inl rfl

theorem Edit.edited_of_step (ha : place a) (h : e.step s a = .ok e') : Edit.Edited s place e e' := by
  unfold Edit.step at h
  split at h
  · cases h
  · split at h
    · split at h
      · cases h
      · cases h; exact Edit.edited_digit s ha _ _ _
    · split at h
      · cases h; exact .store rfl rfl (.inl rfl) (.inl rfl)
      · split at h
        · cases h; exact .refl ..
        · cases h; exact .store rfl rfl (.inl rfl) (.inl rfl)

theorem Edit.edited_of_run (hp : FieldIn place a n) (h : Edit.run s n a e = .ok e') : Edit.Edited s place e e' := by
  induction n generalizing a e with
  | zero =>
    unfold Edit.run at h
    split at h
    · cases h
    · cases h; exact .refl ..
  | succ n ih =>
    unfold Edit.run at h
    split at h
    · cases h
    · next e1 he => exact (Edit.edited_of_step hp.head he).trans (ih hp.tail h)

/-! ## Digit bytes -/

/-- Pattern byte `j` takes a digit from the source (R373). -/
def State.takesDigit (s : State) (a : Addr) (j : Nat) : Prop :=
  s.byteVal (a + BitVec.ofNat 24 j) = 0x20 ∨ s.byteVal (a + BitVec.ofNat 24 j) = 0x21

theorem State.digitBytes_zero (s : State) (a : Addr) : s.digitBytes a 0 = 0 := rfl

theorem State.digitBytes_succ_of_digit (h : s.takesDigit a k) : s.digitBytes a (k + 1) = s.digitBytes a k + 1 := by
  unfold State.takesDigit at h
  simp only [State.digitBytes, List.range_succ, List.filter_append, List.length_append, List.filter_singleton, h,
    decide_true, cond_true, List.length_singleton]

theorem State.digitBytes_succ_of_not_digit (h : ¬ s.takesDigit a k) :
    s.digitBytes a (k + 1) = s.digitBytes a k := by
  unfold State.takesDigit at h
  simp only [State.digitBytes, List.range_succ, List.filter_append, List.length_append, List.filter_singleton, h,
    decide_false, cond_false, List.length_nil, Nat.add_zero]

theorem State.digitBytes_le_succ (s : State) (a : Addr) (k : Nat) : s.digitBytes a k ≤ s.digitBytes a (k + 1) := by
  by_cases h : s.takesDigit a k
  · rw [State.digitBytes_succ_of_digit h]; omega
  · rw [State.digitBytes_succ_of_not_digit h]

/-! ## A pattern without digit byte -/

/-- The variables of an edit in which no digit has been met, the first `k` bytes being filled. -/
structure Edit.Filling (s : State) (a1 : Addr) (k : Nat) (e : Edit) : Prop where
  sig : e.sig = false
  nz : e.nz = false
  mark : e.mark = none
  blocked : e.blocked = !s.storeAllowed a1 k

theorem Edit.exists_reaches_filling (hk : k ≤ 2 ^ 24) (hg : s.given a1 k) (hd : s.digitBytes a1 k = 0) :
    ∃ e, Edit.Reaches s a1 a2 f (List.replicate k f) e ∧ Edit.Filling s a1 k e := by
  induction k with
  | zero => exact ⟨_, .start s a1 a2 f, rfl, rfl, rfl, rfl⟩
  | succ k ih =>
    obtain ⟨hgiven, hbyte⟩ := State.given_succ_iff.mp hg
    have hdigit : ¬ s.takesDigit a1 k := fun h => by
      rw [State.digitBytes_succ_of_digit h] at hd
      omega
    rw [State.digitBytes_succ_of_not_digit hdigit] at hd
    obtain ⟨e, he, hsig, hnz, hmark, hblocked⟩ := ih (by omega) hgiven hd
    have hlen : (List.replicate k f).length = k := List.length_replicate
    have hc : s.byteAt (addrPlus a1 k) = some (s.byteVal (addrPlus a1 k)) := State.read_of_ne_none hbyte
    have hnext := he.fillNext (by omega) (hlen.symm ▸ hc) hdigit hsig hnz
    rw [← List.replicate_succ', hlen] at hnext
    refine ⟨_, hnext, hsig, hnz, hmark, ?_⟩
    rw [Edit.store, hblocked, State.storeAllowed_succ, Bool.not_and]

/-! ## The source after a number of digit bytes -/

/-- Source byte `p` gives two digits: it lies in storage and outside the pattern, has a value, and both its half-bytes
are digits (R373, R390). -/
def State.givesTwoDigits (s : State) (a1 a2 : Addr) (n p : Nat) : Prop :=
  (a2 + BitVec.ofNat 24 p).toNat < s.cfg.memSize ∧ n ≤ (a2 + BitVec.ofNat 24 p - a1).toNat ∧
    s.byteAt (a2 + BitVec.ofNat 24 p) ≠ none ∧ s.halfByte a2 (2 * p) ≤ 9 ∧ s.halfByte a2 (2 * p + 1) ≤ 9

theorem State.halfByte_lt (s : State) (a : Addr) (i : Nat) : s.halfByte a i < 16 := Nat.mod_lt _ (by decide)

theorem State.byteVal_eq_byteOfHalves (s : State) (a : Addr) (p : Nat) :
    s.byteVal (addrPlus a p) = byteOfHalves (s.halfByte a (2 * p)) (s.halfByte a (2 * p + 1)) := by
  have hlt := (s.byteVal (addrPlus a p)).isLt
  apply BitVec.eq_of_toNat_eq
  rw [byteOfHalves, BitVec.toNat_ofNat, State.halfByte, State.halfByte, if_pos (by omega), if_neg (by omega),
    Nat.mul_div_cancel_left p (by decide), Nat.mul_add_div (by decide), Nat.add_zero, ← addrPlus]
  omega

/-- Where the source stands after `c` digit bytes that took whole source bytes. -/
structure EditVars.SourceAt (a2 : Addr) (c : Nat) (x : EditVars) : Prop where
  src : x.src = addrPlus a2 (c / 2)
  left : x.left = decide (c % 2 = 0)

/-- One digit byte over a source byte that gives two digits. -/
theorem EditComes.exists_of_digit {c : Nat} {p : Byte} {x : EditVars} (h : EditComes s a1 a2 f vs x)
    (hk : vs.length < 2 ^ 24) (hkn : vs.length ≤ n) (hp : s.byteAt (addrPlus a1 vs.length) = some p)
    (hdigit : p = 0x20 ∨ p = 0x21) (hat : x.SourceAt a2 c) (hsource : s.givesTwoDigits a1 a2 n (c / 2)) :
    ∃ v x', EditComes s a1 a2 f (vs ++ [v]) x' ∧ x'.SourceAt a2 (c + 1) := by
  obtain ⟨sig, nz, left, src, mark⟩ := x
  obtain ⟨rfl, rfl⟩ : src = addrPlus a2 (c / 2) ∧ left = decide (c % 2 = 0) := ⟨hat.src, hat.left⟩
  obtain ⟨hin, hout, hsb, hhigh, hlow⟩ := hsource
  have hread : s.byteAt (addrPlus a2 (c / 2)) = some (s.byteVal (addrPlus a2 (c / 2))) := State.read_of_ne_none hsb
  rw [State.byteVal_eq_byteOfHalves] at hread
  by_cases heven : c % 2 = 0
  · rw [decide_eq_true heven] at h
    have hsame : (c + 1) / 2 = c / 2 := by omega
    refine ⟨_, _, EditComes.leftDigit (src := addrPlus a2 (c / 2)) hk hp (s.halfByte_lt ..) (s.halfByte_lt ..) hdigit
      hin (hkn.trans hout) hread h hhigh, ?_, decide_eq_decide.mpr (by omega)⟩
    exact (if_neg (by omega)).trans (by rw [hsame])
  · rw [decide_eq_false heven] at h
    have hnext : (c + 1) / 2 = c / 2 + 1 := by omega
    refine ⟨_, _, EditComes.rightDigit (src := addrPlus a2 (c / 2)) hk hp (s.halfByte_lt ..) (s.halfByte_lt ..) hdigit
      hin (hkn.trans hout) hread h, ?_, (decide_eq_true (by omega)).symm⟩
    rw [hnext, ← addrPlus_succ]

theorem exists_editComes_source (hkn : k ≤ n) (hn : n ≤ 2 ^ 24) (hg : s.given a1 k) (hd : s.digitBytes a1 k ≤ 2 * q)
    (hsource : ∀ p < q, s.givesTwoDigits a1 a2 n p) :
    ∃ vs x, vs.length = k ∧ EditComes s a1 a2 f vs x ∧ x.SourceAt a2 (s.digitBytes a1 k) := by
  induction k with
  | zero =>
    refine ⟨[], _, rfl, .start s a1 a2 f, ?_, rfl⟩
    rw [State.digitBytes_zero, Nat.zero_div, addrPlus_zero]
  | succ k ih =>
    obtain ⟨hgiven, hbyte⟩ := State.given_succ_iff.mp hg
    obtain ⟨vs, x, rfl, hx, hat⟩ := ih (by omega) hgiven ((s.digitBytes_le_succ a1 k).trans hd)
    have hp := State.read_of_ne_none hbyte
    by_cases hdigit : s.takesDigit a1 vs.length
    · rw [State.digitBytes_succ_of_digit hdigit] at hd ⊢
      obtain ⟨v, x', hnext, hat'⟩ := hx.exists_of_digit (by omega) (by omega) hp hdigit hat (hsource _ (by omega))
      exact ⟨_, x', List.length_append, hnext, hat'⟩
    · rw [State.digitBytes_succ_of_not_digit hdigit]
      obtain ⟨v, x', hnext, hsrc, hleft⟩ := hx.exists_of_not_digit (by omega) hp hdigit
      exact ⟨_, x', List.length_append, hnext, hsrc.trans hat.src, hleft.trans hat.left⟩

/-! ## The stop at the next digit byte -/

section Stop

variable (hk : k < n) (hn : n ≤ 2 ^ 24) (hf : s.field a1 n) (hg : s.given a1 (k + 1))
  (hbefore : s.digitBytes a1 k = 2 * q) (hdigit : s.digitBytes a1 (k + 1) = 2 * q + 1)
  (hsource : ∀ p < q, s.givesTwoDigits a1 a2 n p)
include hk hn hf hg hbefore hdigit hsource

/-- Pattern byte `k` takes the left half of source byte `q`: where that access stops, the edit stops, and a protected
byte from `k` on is met before (R428). -/
theorem State.edit_of_source_stop {stop : Stop}
    (hstop : ∀ e : Edit, e.src = addrPlus a2 q → e.left = true →
      (∀ b : Addr, k ≤ (b - a1).toNat → e.mem.read b = s.byteAt b) → e.sourceByte s = .error stop) :
    ∃ isProtected : Bool, s.edit n a1 a2 = .error (stop.afterProtection isProtected) ∧
      (s.openField a1 n → isProtected = false) ∧
      ((∃ j < n, k ≤ j ∧ ¬ s.unprotected (addrPlus a1 j)) → isProtected = true) := by
  obtain ⟨hgiven, hbyte⟩ := State.given_succ_iff.mp hg
  have htakes : s.takesDigit a1 k := by
    by_contra h
    rw [State.digitBytes_succ_of_not_digit h] at hdigit
    omega
  obtain ⟨vs, x, rfl, ⟨e, he, rfl⟩, hsrc, hleft⟩ :=
    exists_editComes_source (f := s.byteVal a1) hk.le hn hgiven hbefore.le hsource
  rw [hbefore, Nat.mul_div_cancel_left q (by decide)] at hsrc
  have hsourceStop := hstop e hsrc (hleft.trans (decide_eq_true (by omega))) fun _ => he.read_eq
  have hstep := Edit.step_of_source_stop ((he.read_next (by omega)).trans (State.read_of_ne_none hbyte)) htakes
    hsourceStop
  refine ⟨_, (State.edit_of_fill hf (State.read_of_ne_none ?fill)).trans (he.run_of_stop hk hstep), fun ho => ?_,
    fun ⟨j, hj, hkj, hlocked⟩ => ?_⟩
  case fill => exact FieldIn.head (p := fun b => s.byteAt b ≠ none) hg
  · have hopen := State.storeAllowed_iff_fieldIn.mp (State.storeAllowed_of_openField ho)
    have hafter := State.storeAllowed_iff_fieldIn.mpr (hopen.drop (i := vs.length) (k := n - vs.length) (by omega))
    have hbeforeOpen := State.storeAllowed_iff_fieldIn.mpr (hopen.take hk.le)
    rw [hafter, Bool.not_true, Bool.or_false, Bool.eq_false_iff]
    intro hblocked
    rw [he.blocked hblocked] at hbeforeOpen
    cases hbeforeOpen
  · rw [Bool.or_eq_true, Bool.not_eq_true', Bool.eq_false_iff]
    refine .inr fun hallowed => hlocked ?_
    have hplace := State.storeAllowed_iff_fieldIn.mp hallowed (j - vs.length) (by omega)
    rwa [addrPlus_addrPlus, Nat.add_sub_cancel' hkj] at hplace

/-- The addressing of the source byte comes before all protection. -/
theorem State.edit_of_source_outside (hout : s.cfg.memSize ≤ (addrPlus a2 q).toNat) :
    s.edit n a1 a2 = .error (.address .addressing) := by
  obtain ⟨isProtected, hedit, -⟩ := State.edit_of_source_stop hk hn hf hg hbefore hdigit hsource
    (stop := .address .addressing) fun e hsrc _ _ => Edit.sourceByte_of_outside (hsrc ▸ hout)
  exact hedit

/-- An invalid left half-byte. -/
theorem State.edit_of_source_invalid (hin : (addrPlus a2 q).toNat < s.cfg.memSize)
    (hout : n ≤ (addrPlus a2 q - a1).toNat) (hsb : s.byteAt (addrPlus a2 q) ≠ none)
    (h9 : 9 < s.halfByte a2 (2 * q)) : ∃ isProtected : Bool,
      s.edit n a1 a2 = .error (Stop.data.afterProtection isProtected) ∧
      (s.openField a1 n → isProtected = false) ∧
      ((∃ j < n, k ≤ j ∧ ¬ s.unprotected (addrPlus a1 j)) → isProtected = true) := by
  refine State.edit_of_source_stop hk hn hf hg hbefore hdigit hsource fun e hsrc hleft hread => ?_
  have hbyte := (hread (addrPlus a2 q) (by omega)).trans (State.read_of_ne_none hsb)
  rw [State.byteVal_eq_byteOfHalves] at hbyte
  refine Edit.sourceByte_of_invalid (hsrc ▸ hin) (hsrc ▸ hbyte) hleft ?_
  rwa [hiNibble_byteOfHalves (s.halfByte_lt ..) (s.halfByte_lt ..), toNat_digit (s.halfByte_lt ..)]

end Stop

end Sys2Proof.Machine
end

section
/-! PROOFS. How ED and EDMK end (45_ss_logical R371 to R373, R375): the two differ only in register 1. -/

namespace Sys2Proof.Machine

variable {s : State} {e : Edit} {a a1 a2 b : Addr} {n : Nat} {stop : Stop} {i : Instr} {mark : Bool} {l : Byte}
  {b1 b2 : RegNum} {d1 d2 : Disp}

/-- The general registers after an edit: EDMK puts the marked address, if there is one, into register 1 (R372). -/
def State.markedRegisters (s : State) (mark : Bool) (m : Option Addr) : Vector Word 16 :=
  match mark, m with
  | true, some a => s.withMark a
  | _, _ => s.x

theorem State.markedRegisters_none (s : State) (mark : Bool) : s.markedRegisters mark none = s.x := by
  cases mark <;> rfl

theorem State.markedRegisters_ite (s : State) (mark : Bool) {marks : Prop} [Decidable marks] (a : Addr)
    (m : Option Addr) :
    s.markedRegisters mark (if marks then some a else m) =
      if mark = true ∧ marks then s.withMark a else s.markedRegisters mark m := by
  by_cases h : marks
  · cases mark with
    | true => rw [if_pos h, if_pos ⟨rfl, h⟩, State.markedRegisters]
    | false => rw [if_pos h, if_neg (by simp)]; rfl
  · rw [if_neg h, if_neg (by tauto)]

/-- The state an edit leaves. -/
def State.edited (s : State) (mark : Bool) (e : Edit) : State :=
  { s with mem := e.mem, cc := e.code, x := s.markedRegisters mark e.mark, pc := s.next }

/-- The state with the result fields of an edit free. -/
def State.freedByEdit (s : State) (mark : Bool) (a : Addr) (n : Nat) : State :=
  (if mark then (s.freeBytes a n).freeGprLow 1 24 else s.freeBytes a n).freeCC

/-- ED where `mark` is false, EDMK where it is true. -/
def IsEdit (i : Instr) (mark : Bool) (l : Byte) (b1 : RegNum) (d1 : Disp) (b2 : RegNum) (d2 : Disp) : Prop :=
  i = .ed l b1 d1 b2 d2 ∧ mark = false ∨ i = .edmk l b1 d1 b2 d2 ∧ mark = true

theorem exec_ed (l : Byte) (b1 : RegNum) (d1 : Disp) (b2 : RegNum) (d2 : Disp) (s : State) :
    exec (.ed l b1 d1 b2 d2) s = execEd l b1 d1 b2 d2 s := rfl

theorem exec_edmk (l : Byte) (b1 : RegNum) (d1 : Disp) (b2 : RegNum) (d2 : Disp) (s : State) :
    exec (.edmk l b1 d1 b2 d2) s = execEdmk l b1 d1 b2 d2 s := rfl

section Edits

variable (hi : IsEdit i mark l b1 d1 b2 d2)
include hi

theorem exec_edit_of_ok (h : s.edit (l.toNat + 1) (s.eab d1 b1) (s.eab d2 b2) = .ok e) :
    exec i s = .next (s.edited mark e) := by
  rcases hi with ⟨rfl, rfl⟩ | ⟨rfl, rfl⟩
  · rw [exec_ed, execEd, fieldLength, h]
    rfl
  · obtain ⟨mem, sig, nz, src, left, fill, marked, blocked⟩ := e
    rw [exec_edmk, execEdmk, fieldLength, h]
    cases marked <;> rfl

theorem exec_edit_of_error (h : s.edit (l.toNat + 1) (s.eab d1 b1) (s.eab d2 b2) = .error stop) :
    exec i s = terminateBy (s.freedByEdit mark (s.eab d1 b1) (l.toNat + 1)) stop := by
  rcases hi with ⟨rfl, rfl⟩ | ⟨rfl, rfl⟩
  · rw [exec_ed, execEd, fieldLength, h]
    rfl
  · rw [exec_edmk, execEdmk, fieldLength, h]
    rfl

end Edits

/-! ## Stops -/

theorem State.freedByEdit_fieldFreed (s : State) (mark : Bool) (a : Addr) (n : Nat) :
    { s with x := (s.freedByEdit mark a n).x }.FieldFreed (s.freedByEdit mark a n) a n := by
  cases mark with
  | true => exact ((State.FieldFreed.freeBytes s a n).freeGprLow 1 24).freeCC
  | false =>
    have hfreed := (State.FieldFreed.freeBytes s a n).freeCC
    have hx : (s.freedByEdit false a n).x = s.x := hfreed.x_eq
    rw [hx]
    exact hfreed

theorem State.freedByEdit_x (s : State) (a : Addr) (n : Nat) : (s.freedByEdit false a n).x = s.x :=
  s.freeBytes_x a n

theorem State.gpr_freedByEdit {q : RegNum} (h : q ≠ 1) (s : State) (mark : Bool) (a : Addr) (n : Nat) :
    (s.freedByEdit mark a n).gpr q = s.gpr q := by
  have hbytes : (s.freeBytes a n).gpr q = s.gpr q := State.gpr_congr (s.freeBytes_x a n) q
  cases mark with
  | true => rw [State.freedByEdit, if_pos rfl, State.gpr_freeCC, State.gpr_freeGprLow_ne _ h.symm, hbytes]
  | false => rw [State.freedByEdit, if_neg Bool.false_ne_true, State.gpr_freeCC, hbytes]

theorem State.freedByEdit_first (s : State) (mark : Bool) (a : Addr) (n : Nat) :
    ((s.freedByEdit mark a n).gpr 1).extractLsb' 24 8 = (s.gpr 1).extractLsb' 24 8 := by
  have hbytes : (s.freeBytes a n).gpr 1 = s.gpr 1 := State.gpr_congr (s.freeBytes_x a n) 1
  cases mark with
  | true =>
    rw [State.freedByEdit, if_pos rfl, State.gpr_freeCC, State.extractLsb'_freeGprLow_of_le _ 1 (by decide) le_rfl,
      hbytes]
  | false => rw [State.freedByEdit, if_neg Bool.false_ne_true, State.gpr_freeCC, hbytes]

/-- An edit that a condition stops, nothing else being pending, frees its result fields and no other. -/
theorem State.editTerminates_of_error (hi : IsEdit i mark l b1 d1 b2 d2) (hifr : s.ifr = 0) {c : Condition}
    {info : Info} (h : s.edit (l.toNat + 1) (s.eab d1 b1) (s.eab d2 b2) = .error (.raised c info)) :
    s.editTerminates i mark (s.eab d1 b1) (l.toNat + 1) (c.priority - 1) c info := by
  obtain ⟨t, ht, hterminated, hx⟩ := (s.freedByEdit_fieldFreed mark (s.eab d1 b1) (l.toNat + 1)).terminated hifr c info
  refine ⟨t, (exec_edit_of_error hi h).trans ht, hterminated, fun hmark => ?_, fun q hq => ?_, ?_⟩
  · subst hmark
    exact hx.trans (s.freedByEdit_x _ _)
  · rw [State.gpr_congr hx, State.gpr_freedByEdit hq]
  · rw [State.gpr_congr hx, State.freedByEdit_first]

/-! ## Edits that go through -/

theorem Edit.code_ne_three (e : Edit) : e.code ≠ 3 := by
  unfold Edit.code
  split
  · decide
  · split <;> decide

/-- The edit leaves every byte outside its pattern. -/
theorem State.read_edit_outside (h : s.edit n a1 a2 = .ok e) (hb : n ≤ (b - a1).toNat) :
    e.mem.read b = s.byteAt b := by
  obtain ⟨f, -, hrun⟩ := State.exists_fill_of_edit_ok h
  have hplaces : FieldIn (fun c => (c - a1).toNat < n) a1 n := fun i hi => by
    have hplace : (addrPlus a1 i - a1).toNat = i := toNat_addrPlus_sub (by have := (b - a1).isLt; omega)
    exact hplace.trans_lt hi
  exact (Edit.rewrites_run hplaces hrun).read_eq (by omega)

/-- What a byte of the pattern can have become. -/
theorem State.read_edit_cases (h : s.edit n a1 a2 = .ok e) (b : Addr) :
    e.mem.read b = s.byteAt b ∨ e.mem.read b = s.byteAt a1 ∨ ∃ g : Fin 16, e.mem.read b = some (s.zoned g) := by
  obtain ⟨f, hf, hrun⟩ := State.exists_fill_of_edit_ok h
  have hplaces : FieldIn (fun _ => True) a1 n := fun _ _ => trivial
  rw [hf]
  exact (Edit.edited_of_run hplaces hrun).bytes b

/-- EDMK marks only addresses of the pattern. -/
theorem State.mark_of_edit (h : s.edit n a1 a2 = .ok e) : e.mark = none ∨ ∃ j < n, e.mark = some (addrPlus a1 j) := by
  obtain ⟨f, -, hrun⟩ := State.exists_fill_of_edit_ok h
  have hplaces : FieldIn (fun c => ∃ j < n, c = addrPlus a1 j) a1 n := fun i hi => ⟨i, hi, rfl⟩
  refine (Edit.edited_of_run hplaces hrun).mark.imp_right ?_
  rintro ⟨c, hc, j, hj, rfl⟩
  exact ⟨j, hj, hc⟩

/-- Without a mark EDMK leaves the registers as ED does. -/
theorem State.gpr_edited_of_none (h : e.mark = none) (q : RegNum) : (s.edited mark e).gpr q = s.gpr q := by
  refine State.gpr_congr (u := s) ?_ q
  rw [State.edited, h, State.markedRegisters]
  exact nofun

theorem State.gpr_edited_of_some (h : e.mark = some a) (q : RegNum) :
    (s.edited true e).gpr q = if 1 = q then (s.gpr 1).extractLsb' 24 8 ++ a else s.gpr q := by
  refine (State.gpr_congr (u := s.setGprAddr 1 a) ?_ q).trans (State.gpr_setGpr ..)
  rw [State.edited, h]
  rfl

end Sys2Proof.Machine
end

section
/-! PROOFS. The edits of single patterns (45_ss_logical R373). -/

namespace Sys2Proof.Machine

variable {s : State} {e : Edit} {a1 a2 : Addr} {f p c : Byte} {g h j : Nat} {vs : List Byte} {i : Instr}
  {mark : Bool} {l : Byte} {b1 b2 : RegNum} {d1 d2 : Disp}

/-- An edit of the whole pattern, none of it protected. -/
theorem Edit.Reaches.edit_eq (h : Edit.Reaches s a1 a2 f vs e) (ho : s.openField a1 vs.length)
    (hf : s.byteAt a1 = some f) : s.edit vs.length a1 a2 = .ok e := by
  obtain ⟨hfield, -⟩ := id ho
  have hblocked : e.blocked = false := Bool.eq_false_iff.mpr fun hb => by
    have hclosed := h.blocked hb
    rw [State.storeAllowed_of_openField ho] at hclosed
    cases hclosed
  rw [State.edit_of_fill hfield hf, h.run_end, hblocked, if_neg Bool.false_ne_true]

theorem Edit.Reaches.read_result (h : Edit.Reaches s a1 a2 f vs e) {v : Byte} (hj : vs[j]? = some v)
    (hlen : vs.length ≤ 2 ^ 24) : e.mem.read (addrPlus a1 j) = some v := by
  obtain ⟨hlt, -⟩ := List.getElem?_eq_some_iff.mp hj
  rw [h.holds, toNat_addrPlus_sub (by omega), hj, Option.some_or]

/-- ED and EDMK by the bytes and the variables the edit ends with. -/
theorem EditComes.completes {v : EditVars} {cc : CC} {x : Vector Word 16} (hi : IsEdit i mark l b1 d1 b2 d2)
    (h : EditComes s (s.eab d1 b1) (s.eab d2 b2) f vs v) (hlen : vs.length = l.toNat + 1)
    (ho : s.openField (s.eab d1 b1) (l.toNat + 1)) (hf : s.byteAt (s.eab d1 b1) = some f)
    (hcode : (if v.nz = false then 0 else if v.sig = true then 1 else 2) = cc)
    (hx : s.markedRegisters mark v.mark = x) :
    ∃ t, s.editCompletes t i (s.eab d1 b1) (l.toNat + 1) cc x ∧
      ∀ j u, vs[j]? = some u → t.byteAt (s.eab d1 b1 + BitVec.ofNat 24 j) = some u := by
  obtain ⟨e, he, rfl⟩ := h
  have hn : l.toNat + 1 ≤ 2 ^ 24 := l.isLt.trans (by decide)
  have hedit := he.edit_eq (hlen.symm ▸ ho) hf
  rw [hlen] at hedit
  subst hcode hx
  exact ⟨s.edited mark e, ⟨exec_edit_of_ok hi hedit, rfl, fun b => State.read_edit_outside hedit⟩,
    fun j u hj => he.read_result hj (hlen.trans_le hn)⟩

theorem plusSign_of_fin : ∀ g : Fin 16, (g == 10 || g == 12 || g == 14 || g == 15) = plusSign g := by decide

theorem plusSign_of_le (h : g ≤ 9) : plusSign g = false := by
  have hall : ∀ g : Fin 10, plusSign g = false := by decide
  exact hall ⟨g, by omega⟩

section Patterns

variable (hfill : s.byteAt a1 = some f) (hf : ¬ (f = 0x20 ∨ f = 0x21))
include hfill hf

/-- The fill character stays. -/
theorem EditComes.first : EditComes s a1 a2 f [f] ⟨false, false, true, a2, none⟩ :=
  EditComes.fill (vs := []) (by decide) (by rwa [List.length_nil, addrPlus_zero]) (.start s a1 a2 f) hf

/-- A digit select or a significance starter over the first digit. -/
theorem EditComes.firstDigit (hh : h ≤ 9) (hg : g < 16) (hp : p = 0x20 ∨ p = 0x21)
    (hp1 : s.byteAt (addrPlus a1 1) = some p)
    (hsb : s.byteAt a2 = some (byteOfHalves h g)) (hin : a2.toNat < s.cfg.memSize) (hout : 1 ≤ (a2 - a1).toNat) :
    EditComes s a1 a2 f [f, if h = 0 then f else s.zoned h]
      { sig := (h != 0 || p == 0x21) && !plusSign g
        nz := h != 0
        left := decide (9 < g)
        src := if 9 < g then a2 + 1 else a2
        mark := if h ≠ 0 then some (addrPlus a1 1) else none } := by
  have hleft := EditComes.leftDigit (vs := [f]) (show 1 < 2 ^ 24 by decide) hp1 (by omega) hg hp hin hout hsb
    (.first hfill hf) hh
  simpa only [and_true, List.singleton_append, Bool.false_or, List.length_singleton] using hleft

/-- Two digits, the first at a digit select or a significance starter. -/
theorem EditComes.twoDigits (hh : h ≤ 9) (hg : g ≤ 9) (hp : p = 0x20 ∨ p = 0x21)
    (hp1 : s.byteAt (addrPlus a1 1) = some p) (hp2 : s.byteAt (addrPlus a1 2) = some 0x20)
    (hsb : s.byteAt a2 = some (byteOfHalves h g)) (hin : a2.toNat < s.cfg.memSize) (hout : 3 ≤ (a2 - a1).toNat) :
    EditComes s a1 a2 f [f, if h = 0 then f else s.zoned h, if h = 0 ∧ g = 0 ∧ p = 0x20 then f else s.zoned g]
      { sig := h != 0 || p == 0x21 || g != 0
        nz := h != 0 || g != 0
        left := true
        src := a2 + 1
        mark := if h ≠ 0 then some (addrPlus a1 1) else if g ≠ 0 ∧ p = 0x20 then some (addrPlus a1 2) else none } := by
  have hfirst := EditComes.firstDigit hfill hf hh (by omega) hp hp1 hsb hin (by omega)
  rw [plusSign_of_le hg, decide_eq_false (by omega), if_neg (by omega : ¬ 9 < g)] at hfirst
  have hright := EditComes.rightDigit (vs := [f, _]) (show 2 < 2 ^ 24 by decide) hp2 (by omega) (by omega) (.inl rfl)
    hin (Nat.le_of_lt hout) hsb hfirst
  convert hright using 1
  · by_cases h0 : h = 0 <;> rcases hp with rfl | rfl <;> simp [h0]
  · rcases hp with rfl | rfl <;> by_cases h0 : h = 0 <;> by_cases g0 : g = 0 <;> simp [h0, g0]

/-- One digit, with a sign or a digit to its right, and an insertion character, kept while significance is on. -/
theorem EditComes.digitAndInsertion (hh : h ≤ 9) (hg : g < 16) (hp1 : s.byteAt (addrPlus a1 1) = some 0x20)
    (hp2 : s.byteAt (addrPlus a1 2) = some c) (hc : ¬ (c = 0x20 ∨ c = 0x21)) (hsep : c ≠ 0x22)
    (hsb : s.byteAt a2 = some (byteOfHalves h g)) (hin : a2.toNat < s.cfg.memSize) (hout : 3 ≤ (a2 - a1).toNat) :
    EditComes s a1 a2 f [f, if h = 0 then f else s.zoned h, if h ≠ 0 ∧ plusSign g = false then c else f]
      { sig := h != 0 && !plusSign g
        nz := h != 0
        left := decide (9 < g)
        src := if 9 < g then a2 + 1 else a2
        mark := if h ≠ 0 then some (addrPlus a1 1) else none } := by
  have hfirst := EditComes.firstDigit hfill hf hh hg (.inl rfl) hp1 hsb hin (by omega)
  have hlast := EditComes.insertion (vs := [f, _]) (show 2 < 2 ^ 24 by decide) hp2 hfirst hc hsep
  simpa only [beq_iff_eq, Bool.or_false, (by decide : ((0x20 : Byte) == 0x21) = false), Bool.and_eq_true, bne_iff_ne,
    Bool.not_eq_true', List.cons_append, List.nil_append] using hlast

/-- Two signed digits with a field separator between them: the second field decides. -/
theorem EditComes.twoFields {d m : Nat} (hh : h ≤ 9) (hg : g < 16) (hd : d ≤ 9) (hm : m < 16) (hsign : 9 < g)
    (hp1 : s.byteAt (addrPlus a1 1) = some 0x20) (hp2 : s.byteAt (addrPlus a1 2) = some 0x22)
    (hp3 : s.byteAt (addrPlus a1 3) = some 0x20) (hsb : s.byteAt a2 = some (byteOfHalves h g))
    (hsb2 : s.byteAt (a2 + 1) = some (byteOfHalves d m)) (hin : a2.toNat < s.cfg.memSize)
    (hin2 : (a2 + 1).toNat < s.cfg.memSize) (hout : 4 ≤ (a2 - a1).toNat) (hout2 : 4 ≤ (a2 + 1 - a1).toNat) :
    EditComes s a1 a2 f [f, if h = 0 then f else s.zoned h, f, if d = 0 then f else s.zoned d]
      { sig := d != 0 && !plusSign m
        nz := d != 0
        left := decide (9 < m)
        src := if 9 < m then a2 + 1 + 1 else a2 + 1
        mark := if d ≠ 0 then some (addrPlus a1 3) else if h ≠ 0 then some (addrPlus a1 1) else none } := by
  have hfirst := EditComes.firstDigit hfill hf hh hg (.inl rfl) hp1 hsb hin (by omega)
  have hsep := EditComes.separator (vs := [f, _]) (show 2 < 2 ^ 24 by decide) hfirst hp2
  rw [decide_eq_true hsign, if_pos hsign] at hsep
  have hlast := EditComes.leftDigit (vs := [f, _, f]) (show 3 < 2 ^ 24 by decide) hp3 (by omega) hm (.inl rfl) hin2
    (Nat.le_of_lt hout2) hsb2 hsep hd
  simpa only [Bool.or_false, Bool.false_or, (by decide : ((0x20 : Byte) == 0x21) = false), and_true,
    List.cons_append, List.nil_append, List.length_cons, List.length_nil] using hlast

end Patterns

end Sys2Proof.Machine
end

section
/-! PROOFS. The obligations of 45_ss_logical. -/

open Sys2Proof Sys2Proof.Machine

/-- Settles O43: the six instructions are one walk from the left over their form; a byte without value stops it, the
access checks come before it. -/
theorem fieldOperations : Obligations.FieldOperations := by
  unfold Obligations.FieldOperations
  intro s i w hw
  obtain ⟨hn, hexec⟩ := exec_of_fieldForm hw
  rw [hexec]
  refine ⟨fun ho hf hg hsource => ?stores, fun ho hf hnone => ?noValue, fun hifr hout => ?outside,
    fun hifr hf hf2 ho => ?locked⟩
  case stores =>
    obtain ⟨hfield, -⟩ := id ho
    obtain ⟨m, hm, hwalk⟩ := FieldForm.combineBytes_of_ready (by omega) ⟨hg, hsource⟩
    have hcombine : s.combineFields w.n w.a1 w.a2 w.combine = .ok m := by
      rw [State.combineFields, State.fieldFault_of_open hfield hf fun _ => ho]
      exact congrArg givenOr (hwalk 0)
    have hgiven : (s.setMem m).given w.a1 w.n := fun j hj =>
      Option.ne_none_iff_exists'.mpr ⟨_, hm.stored j hj⟩
    refine ⟨(w.finished s m).advance, by rw [hcombine]; rfl, ?_⟩
    by_cases hcc : w.setsCC = true
    · have hcode := FieldForm.finished_cc hgiven hcc
      rw [FieldForm.finished, if_pos hcc] at hcode ⊢
      exact ⟨hm.stored, hm.kept, rfl, fun h => absurd hcc (by simp [h]), fun _ => hcode⟩
    · rw [FieldForm.finished, if_neg hcc]
      exact ⟨hm.stored, hm.kept, rfl, fun _ => rfl, fun h => absurd h hcc⟩
  case noValue =>
    obtain ⟨hfield, -⟩ := id ho
    have hready : ¬ w.Ready s w.n := fun ⟨hfirst, hsource⟩ =>
      hnone.elim (fun ⟨hreads, h⟩ => h (hfirst hreads)) fun h => h hsource
    rw [State.combineFields, State.fieldFault_of_open hfield hf fun _ => ho,
      FieldForm.combineBytes_of_not_ready (by omega) hready]
    rfl
  case outside =>
    rw [State.combineFields, State.fieldFault_of_outside (not_and_or.mp hout)]
    exact w.exists_terminated hifr _
  case locked =>
    rw [State.combineFields, State.fieldFault_of_protected hf hf2 ho]
    exact w.exists_terminated hifr _

/-- Settles O44: CLC compares the two fields as numbers, where the first unequal byte decides; the scan of TRT passes
the zero function bytes and ends at the first byte they do not reach. -/
theorem fieldTests : Obligations.FieldTests := by
  unfold Obligations.FieldTests
  rintro s l b1 b2 d1 d2 a1 a2 n fn rfl rfl rfl hfn
  obtain rfl : fn = s.functionAddr (s.eab d1 b1) (s.eab d2 b2) :=
    funext fun j => (hfn j).trans (s.functionAddr_eq ..).symm
  refine ⟨fun hf hf2 hg hg2 => ⟨fun heq => ?equal, fun k hk heq hne => ?unequal⟩, fun hout hifr => ?outside,
    fun hf hf2 hnone => ?noValue, fun hf hg hzero => ?allZero, fun k hk hf hg hzero => ?scan⟩
  case equal =>
    rw [exec_clc_of_field hf hf2, State.withValue_of_given hg, State.withValue_of_given hg2,
      fieldNumber_congr heq, compareLogical_self]
    rfl
  case unequal =>
    rw [exec_clc_of_field hf hf2, State.withValue_of_given hg, State.withValue_of_given hg2,
      compareLogical_fieldNumber hk heq hne]
    rfl
  case outside =>
    rw [exec_clc_of_fault (State.fieldFault_of_outside (not_and_or.mp hout))]
    exact ⟨_, terminateBy_eq_suppressed (u := s.freeCC) hifr .., (State.FieldFreed.refl ..).freeCC.terminatedField⟩
  case noValue =>
    rw [exec_clc_of_field hf hf2]
    by_cases hg : s.given (s.eab d1 b1) (l.toNat + 1)
    · rw [State.withValue_of_given hg, State.withValue_of_not_given fun hg2 => hnone ⟨hg, hg2⟩]
    · exact State.withValue_of_not_given hg _
  case allZero =>
    exact exec_trt_of_allZero (State.scanFunction_skip ⟨hf, hg, hzero⟩ 0)
  case scan =>
    have hscanned : s.ScannedZero (s.eab d1 b1) (s.eab d2 b2) k := ⟨hf, hg, hzero⟩
    refine ⟨fun f hf1 hg1 hin hv hne => ?found, fun hout hifr => ?stopped, fun hf1 hnone => ?refused⟩
    case found =>
      rw [exec_trt_of_found (State.scanFunction_of_found hk hscanned hf1 hg1 hin hv hne)]
      simp only [decide_eq_true_eq]
      rfl
    case stopped =>
      rw [exec_trt_of_stopped (State.scanFunction_of_outside hk hscanned hout)]
      obtain ⟨t, ht, hterminated, hx⟩ := (s.freedByTrt_fieldFreed (s.eab d1 b1)).terminated hifr .addressError
        (.address .addressing)
      refine ⟨t, ht, hterminated, fun q h1 h2 => ?_, ?_, ?_⟩ <;> rw [State.gpr_congr hx]
      · exact State.gpr_freedByTrt h1 h2
      · exact State.freedByTrt_first
      · exact State.freedByTrt_second
    case refused =>
      rw [exec_trt_of_stopped (State.scanFunction_of_not_given hk hscanned hf1 hnone)]
      rfl

/-- Settles O45: TR is a walk from the left, whose stops are those of its first byte that is not ready. -/
theorem translation : Obligations.Translation := by
  unfold Obligations.Translation
  rintro s l b1 b2 d1 d2 a1 a2 n fn ready rfl rfl rfl hfn hready
  obtain rfl : fn = s.functionAddr (s.eab d1 b1) (s.eab d2 b2) :=
    funext fun j => (hfn j).trans (s.functionAddr_eq ..).symm
  obtain rfl : ready = s.TableReady (s.eab d1 b1) (s.eab d2 b2) := funext fun k => propext (hready k)
  have hn : l.toNat + 1 ≤ 2 ^ 24 := l.isLt.trans (by decide)
  rw [exec_tr]
  refine ⟨fun ho hdone => ?stores, fun hifr hout => ?outside, fun hifr hf ho hg hin => ?locked,
    fun k hk ho hbefore hnone => ?noValue⟩
  case stores =>
    obtain ⟨hf, -⟩ := id ho
    obtain ⟨m, hm, hwalk⟩ := State.translateBytes_of_ready hn hdone
    rw [State.translate_of_done hf (hwalk 0), State.storeAllowed_of_openField ho, if_pos rfl]
    exact ⟨_, rfl, rfl, hm.stored, hm.kept⟩
  case outside =>
    have hstop : s.translate (l.toNat + 1) (s.eab d1 b1) (s.eab d2 b2) = .error (.address .addressing) := by
      by_cases hf : s.field (s.eab d1 b1) (l.toNat + 1)
      · obtain ⟨k, hk, hbefore, hg, hfunction⟩ := hout.resolve_left (not_not.mpr hf)
        obtain ⟨-, hbyte⟩ := State.given_succ_iff.mp hg
        rw [State.translate_of_stop hf (State.translateBytes_of_outside hn hk hbefore hbyte hfunction)]
        rfl
      · exact State.translate_of_outside hf
    rw [hstop]
    exact accessTerminated_freeBytes hifr ..
  case locked =>
    rw [State.translate_of_protected hn hf ho hg hin]
    exact accessTerminated_freeBytes hifr ..
  case noValue =>
    obtain ⟨hf, -⟩ := id ho
    have hbyte : s.byteAt (addrPlus (s.eab d1 b1) k) = none ∨
        (s.functionAddr (s.eab d1 b1) (s.eab d2 b2) k).toNat < s.cfg.memSize ∧
          ¬ s.givenRightward (s.eab d1 b1) k (s.functionAddr (s.eab d1 b1) (s.eab d2 b2) k) := by
      obtain ⟨hgiven, -⟩ := hbefore
      refine hnone.imp_left fun h => ?_
      by_contra hbyte
      exact h (State.given_succ_iff.mpr ⟨hgiven, hbyte⟩)
    rw [State.translate_of_stop hf (State.translateBytes_of_not_given hn hk hbefore hbyte),
      State.storeAllowed_of_openField ho]
    rfl

/-- Settles O46: the general edit through what a step can store and mark; the single patterns through the bytes and the
variables their edits come to. -/
theorem editing : Obligations.Editing := by
  unfold Obligations.Editing
  rintro s i mark l b1 b2 d1 d2 a1 a2 n hi rfl rfl rfl
  refine ⟨fun e hedit => ?anyEdit, fun ho hg hd => ?noDigit, fun f h g ho hf hf' hfill hp2 hsb hin hl hout => ?digits,
    fun f c h g plus ho hf hf' hc hc' hsep hfill hp1 hp2 hsb hin hl hout hplus => ?insertion,
    fun f h k g m plus ho hf hf' hfill hp1 hp2 hp3 hsb hsb2 hg hm hfield hl hout hout2 hplus => ?fields⟩
  case anyEdit =>
    refine ⟨s.edited false e, s.edited true e, exec_edit_of_ok (.inl ⟨rfl, rfl⟩) hedit,
      exec_edit_of_ok (.inr ⟨rfl, rfl⟩) hedit, rfl, rfl, e.code_ne_three, ?_, ?_,
      fun b => State.read_edit_outside hedit, fun j _ => State.read_edit_cases hedit _⟩
    · intro q hq
      rcases State.mark_of_edit hedit with hnone | ⟨j, hj, hsome⟩
      · exact State.gpr_edited_of_none hnone q
      · rw [State.gpr_edited_of_some hsome, if_neg hq.symm]
    · rcases State.mark_of_edit hedit with hnone | ⟨j, hj, hsome⟩
      · exact .inl (State.gpr_edited_of_none hnone 1)
      · exact .inr ⟨j, hj, (State.gpr_edited_of_some hsome 1).trans (if_pos rfl)⟩
  case noDigit =>
    have hbyte : s.byteAt (s.eab d1 b1) = some (s.byteVal (s.eab d1 b1)) :=
      State.read_of_ne_none (FieldIn.head (p := fun b => s.byteAt b ≠ none) hg)
    obtain ⟨e, he, hsig, hnz, hmark, -⟩ := Edit.exists_reaches_filling (a2 := s.eab d2 b2)
      (f := s.byteVal (s.eab d1 b1)) (l.isLt.trans (by decide)) hg hd
    obtain ⟨t, ht, hbytes⟩ := EditComes.completes hi ⟨e, he, rfl⟩ List.length_replicate ho hbyte (if_pos hnz)
      ((congrArg (s.markedRegisters mark) hmark).trans (s.markedRegisters_none mark))
    exact ⟨t, ht, fun j hj => hbyte ▸ hbytes j _ (List.getElem?_replicate_of_lt hj)⟩
  case digits =>
    subst hl
    have hdigits (p : Byte) (hp : p = 0x20 ∨ p = 0x21) (hp1 : s.byteAt (s.eab d1 b1 + 1) = some p) :=
      EditComes.completes (cc := if h = 0 ∧ g = 0 then 0 else 1) hi
        (EditComes.twoDigits (h := h) (g := g) hfill (by tauto) (by omega) (by omega) hp hp1 hp2 hsb hin hout) rfl ho
        hfill (by by_cases h0 : h = 0 <;> by_cases g0 : g = 0 <;> simp [h0, g0])
        (by rw [State.markedRegisters_ite, State.markedRegisters_ite, State.markedRegisters_none])
    refine ⟨fun hp1 => ?_, fun hp1 => ?_⟩
    · obtain ⟨t, ht, hbytes⟩ := hdigits 0x20 (.inl rfl) hp1
      refine ⟨t, ?_, by simpa using hbytes 0 _ rfl, by simpa using hbytes 1 _ rfl, by simpa using hbytes 2 _ rfl⟩
      simpa [addrPlus] using ht
    · obtain ⟨t, ht, hbytes⟩ := hdigits 0x21 (.inr rfl) hp1
      refine ⟨t, ?_, by simpa using hbytes 0 _ rfl, by simpa using hbytes 1 _ rfl, by simpa using hbytes 2 _ rfl⟩
      simpa [addrPlus] using ht
  case insertion =>
    subst hl
    rw [plusSign_of_fin] at hplus
    subst hplus
    obtain ⟨t, ht, hbytes⟩ := EditComes.completes (cc := if h = 0 then 0 else if plusSign g = true then 2 else 1) hi
      (EditComes.digitAndInsertion (h := h) hfill (by tauto) (by omega) g.isLt hp1 hp2 (by tauto) hsep hsb hin hout) rfl
      ho hfill (by by_cases h0 : h = 0 <;> cases plusSign g <;> simp [h0])
      (by rw [State.markedRegisters_ite, State.markedRegisters_none])
    refine ⟨t, ?_, by simpa using hbytes 0 _ rfl, by simpa using hbytes 1 _ rfl, by simpa using hbytes 2 _ rfl⟩
    simpa [addrPlus] using ht
  case fields =>
    subst hl
    rw [plusSign_of_fin] at hplus
    subst hplus
    obtain ⟨t, ht, hbytes⟩ := EditComes.completes (cc := if k = 0 then 0 else if plusSign m = true then 2 else 1) hi
      (EditComes.twoFields (h := h) (d := k) hfill (by tauto) (by omega) g.isLt (by omega) m.isLt hg hp1 hp2 hp3 hsb
        hsb2 (by simpa using hfield 0 (by decide)) (hfield 1 (by decide)) hout hout2) rfl
      ho hfill (by by_cases k0 : k = 0 <;> cases plusSign m <;> simp [k0])
      (by rw [State.markedRegisters_ite, State.markedRegisters_ite, State.markedRegisters_none])
    refine ⟨t, ?_, by simpa using hbytes 0 _ rfl, by simpa using hbytes 1 _ rfl, by simpa using hbytes 2 _ rfl,
      by simpa using hbytes 3 _ rfl⟩
    simpa [addrPlus] using ht

/-- Settles O47: a stop frees the result fields of the edit; where the edit stops follows from the bytes before it. -/
theorem editTerminations : Obligations.EditTerminations := by
  unfold Obligations.EditTerminations
  rintro s i mark l b1 b2 d1 d2 a1 a2 n hi rfl rfl rfl
  have hn : l.toNat + 1 ≤ 2 ^ 24 := l.isLt.trans (by decide)
  refine ⟨fun hifr c hedit => State.editTerminates_of_error hi hifr hedit,
    fun hifr hedit => State.editTerminates_of_error hi hifr hedit, fun hedit => exec_edit_of_error hi hedit,
    fun hifr hf => State.editTerminates_of_error hi hifr (State.edit_of_outside hf),
    fun hifr hf ho hg hd => ?noDigit, fun k q hifr hk hf hg hbefore hdigit hsource => ⟨fun hout => ?outside,
      fun hin hout hsb h9 => ?invalid⟩⟩
  case noDigit =>
    suffices hedit : s.edit (l.toNat + 1) (s.eab d1 b1) (s.eab d2 b2) = .error (.address .protect) from
      State.editTerminates_of_error hi hifr hedit
    have hbyte := State.read_of_ne_none (FieldIn.head (p := fun b => s.byteAt b ≠ none) hg)
    obtain ⟨e, he, -, -, -, hblocked⟩ := Edit.exists_reaches_filling (a2 := s.eab d2 b2) (f := s.byteVal (s.eab d1 b1))
      hn hg hd
    have hend := he.run_end
    rw [List.length_replicate, hblocked, State.storeAllowed_eq_false hf ho, Bool.not_false, if_pos rfl] at hend
    exact (State.edit_of_fill hf hbyte).trans hend
  case outside =>
    exact State.editTerminates_of_error hi hifr (State.edit_of_source_outside hk hn hf hg hbefore hdigit hsource hout)
  case invalid =>
    obtain ⟨isProtected, hedit, hopen, hlocked⟩ :=
      State.edit_of_source_invalid hk hn hf hg hbefore hdigit hsource hin hout hsb h9
    refine ⟨fun ho => ?_, fun hprotected => ?_⟩
    · rw [hopen ho] at hedit
      exact State.editTerminates_of_error hi hifr hedit
    · rw [hlocked hprotected] at hedit
      exact State.editTerminates_of_error hi hifr hedit
end

section
/-! PROOFS. The number a packed field stands for (46_ss_decimal R390, R392), by its half-bytes. -/

namespace Sys2Proof.Machine

/-! ## Numerals -/

/-- The number with these digits to the base `b`, the leftmost first. -/
abbrev numeral (b : Nat) (ds : List Nat) : Nat := ds.foldl (fun v d => b * v + d) 0

theorem numeral_concat (b : Nat) (ds : List Nat) (d : Nat) : numeral b (ds ++ [d]) = b * numeral b ds + d :=
  List.foldl_concat ..

/-- Half-bytes read as decimal digits: none where one of them is above 9. -/
theorem bcdValue_numeral {ds : List Nat} (h : ∀ d ∈ ds, d < 16) :
    bcdValue ds.length (numeral 16 ds) = if ∀ d ∈ ds, d ≤ 9 then some (numeral 10 ds) else none := by
  induction ds using List.reverseRecOn with
  | nil => rfl
  | append_singleton ds d ih =>
    simp only [List.forall_mem_append, List.forall_mem_singleton] at h ⊢
    obtain ⟨hleft, hd⟩ := h
    have hlow : (16 * numeral 16 ds + d) % 16 = d := by omega
    have hhigh : (16 * numeral 16 ds + d) / 16 = numeral 16 ds := by omega
    rw [List.length_append, List.length_singleton, bcdValue, numeral_concat, numeral_concat, hlow, hhigh, ih hleft]
    by_cases hdigit : d ≤ 9
    · rw [if_neg (by omega)]
      by_cases hall : ∀ d ∈ ds, d ≤ 9
      · rw [if_pos hall, if_pos ⟨hall, hdigit⟩]
      · rw [if_neg hall, if_neg fun ⟨hboth, _⟩ => hall hboth]
    · rw [if_pos (by omega), if_neg fun ⟨_, hboth⟩ => hdigit hboth]

theorem signIsMinus_eq (h : Nat) : signIsMinus h = (h == 11 || h == 13) := rfl

/-- The parse of a packed field by its digits and its sign half-byte. -/
theorem decParse_numeral {n h : Nat} {ds : List Nat} (hlen : ds.length = 2 * n - 1) (hds : ∀ d ∈ ds, d < 16)
    (hh : h < 16) : decParse n (numeral 16 ds * 16 + h) =
      if (∀ d ∈ ds, d ≤ 9) ∧ 10 ≤ h then some { mag := numeral 10 ds, neg := h == 11 || h == 13 } else none := by
  have hlow : (numeral 16 ds * 16 + h) % 16 = h := by omega
  have hhigh : (numeral 16 ds * 16 + h) / 16 = numeral 16 ds := by omega
  rw [decParse, hlow, hhigh, ← hlen, bcdValue_numeral hds, signIsMinus_eq]
  by_cases hsign : 10 ≤ h
  · rw [if_neg (by omega)]
    by_cases hall : ∀ d ∈ ds, d ≤ 9
    · rw [if_pos hall, if_pos ⟨hall, hsign⟩]
    · rw [if_neg hall, if_neg fun ⟨hboth, _⟩ => hall hboth]
  · rw [if_pos (by omega), if_neg fun ⟨_, hboth⟩ => hsign hboth]

/-! ## A field in storage -/

variable {s : State} {a : Addr} {n : Nat}

theorem State.byteVal_toNat_eq_halves (s : State) (a : Addr) (p : Nat) :
    (s.byteVal (a + BitVec.ofNat 24 p)).toNat = 16 * s.halfByte a (2 * p) + s.halfByte a (2 * p + 1) := by
  have hleft := s.halfByte_lt a (2 * p)
  have hright := s.halfByte_lt a (2 * p + 1)
  rw [← addrPlus, State.byteVal_eq_byteOfHalves, byteOfHalves, BitVec.toNat_ofNat]
  omega

/-- The number a field holds, by its half-bytes. -/
theorem State.fieldNumber_eq_numeral (s : State) (a : Addr) (n : Nat) :
    fieldNumber (fun j => s.byteVal (a + BitVec.ofNat 24 j)) n =
      numeral 16 ((List.range (2 * n)).map (s.halfByte a)) := by
  induction n with
  | zero => rfl
  | succ n ih =>
    have hrange : (List.range (2 * (n + 1))).map (s.halfByte a) =
        (List.range (2 * n)).map (s.halfByte a) ++ [s.halfByte a (2 * n)] ++ [s.halfByte a (2 * n + 1)] := by
      simp [Nat.mul_succ, List.range_succ]
    rw [fieldNumber_succ, ih, hrange, numeral_concat, numeral_concat, State.byteVal_toNat_eq_halves]
    omega

/-- The digits of a packed field of `n` bytes, as half-bytes. -/
def State.digitHalves (s : State) (a : Addr) (n : Nat) : List Nat := (List.range (2 * n - 1)).map (s.halfByte a)

theorem State.numeral_digitHalves (s : State) (a : Addr) (n b : Nat) :
    numeral b (s.digitHalves a n) = (List.range (2 * n - 1)).foldl (fun v i => b * v + s.halfByte a i) 0 :=
  List.foldl_map

theorem State.not_invalidPacked_iff :
    ¬ s.invalidPacked a n ↔ (∀ d ∈ s.digitHalves a n, d ≤ 9) ∧ 10 ≤ s.halfByte a (2 * n - 1) := by
  simp [State.invalidPacked, State.digitHalves]

theorem State.value_eq_digits_sign (hn : 1 ≤ n) (h : s.given a n) :
    s.mem.value a n = some (numeral 16 (s.digitHalves a n) * 16 + s.halfByte a (2 * n - 1)) := by
  obtain ⟨k, hk⟩ : ∃ k, 2 * n = k + 1 := ⟨2 * n - 1, by omega⟩
  rw [State.value_of_given h, State.fieldNumber_eq_numeral, State.digitHalves, hk, Nat.add_sub_cancel,
    List.range_succ, List.map_append, List.map_singleton, numeral_concat, Nat.mul_comm]

theorem State.decParse_halfBytes (s : State) (a : Addr) (n : Nat) :
    decParse n (numeral 16 (s.digitHalves a n) * 16 + s.halfByte a (2 * n - 1)) =
      if (∀ d ∈ s.digitHalves a n, d ≤ 9) ∧ 10 ≤ s.halfByte a (2 * n - 1) then
        some { mag := numeral 10 (s.digitHalves a n)
               neg := s.halfByte a (2 * n - 1) == 11 || s.halfByte a (2 * n - 1) == 13 }
      else none :=
  decParse_numeral (by simp [State.digitHalves]) (by simp [State.digitHalves, State.halfByte_lt]) (s.halfByte_lt ..)

/-- An invalid digit or sign of a field that has values ends its reading in DataError (R392). -/
theorem State.decAt_of_invalidPacked (hn : 1 ≤ n) (h : s.given a n) (hbad : s.invalidPacked a n) :
    s.decAt a n = .error .data := by
  rw [State.decAt, State.value_eq_digits_sign hn h]
  simp only [State.decParse_halfBytes, if_neg (mt State.not_invalidPacked_iff.mpr (not_not.mpr hbad))]

theorem State.decAt_of_valid (hn : 1 ≤ n) (h : s.given a n) (hgood : ¬ s.invalidPacked a n) :
    s.decAt a n = .ok
      { mag := numeral 10 (s.digitHalves a n)
        neg := s.halfByte a (2 * n - 1) == 11 || s.halfByte a (2 * n - 1) == 13 } := by
  rw [State.decAt, State.value_eq_digits_sign hn h]
  simp only [State.decParse_halfBytes, if_pos (State.not_invalidPacked_iff.mp hgood)]

theorem State.decAt_of_not_given (h : ¬ s.given a n) : s.decAt a n = .error .noValue := by
  rw [State.decAt, State.value_eq_none_iff_not_given.mpr h]

/-- A packed operand that can be read has a value in each byte. -/
theorem State.given_of_decAt_ok {d : Dec} (h : s.decAt a n = .ok d) : s.given a n := by
  by_contra hnone
  rw [State.decAt_of_not_given hnone] at h
  cases h

end Sys2Proof.Machine
end

section
/-! PROOFS. Generated packed fields (46_ss_decimal R390, R394): the number one holds, its size, and what is read of it
after it was stored. -/

namespace Sys2Proof.Machine

/-! ## The number of a generated field -/

theorem bcdDigits_lt (k m : Nat) : bcdDigits k m < 16 ^ k := by
  induction k generalizing m with
  | zero => exact Nat.one_pos
  | succ k ih =>
    have hrest := ih (m / 10)
    rw [bcdDigits, pow_succ]
    omega

theorem bcdValue_bcdDigits (k m : Nat) : bcdValue k (bcdDigits k m) = some (m % 10 ^ k) := by
  induction k generalizing m with
  | zero => rw [pow_zero, Nat.mod_one]; rfl
  | succ k ih =>
    have hlow : (16 * bcdDigits k (m / 10) + m % 10) % 16 = m % 10 := by omega
    have hhigh : (16 * bcdDigits k (m / 10) + m % 10) / 16 = bcdDigits k (m / 10) := by omega
    rw [bcdDigits, bcdValue, hlow, hhigh, if_neg (by omega), ih, pow_succ', Nat.mod_mul, Nat.add_comm]

/-- A packed number below `16 ^ j` has at most `j` digits. -/
theorem lt_of_bcdValue {k v m j : Nat} (h : bcdValue k v = some m) (hv : v < 16 ^ j) : m < 10 ^ j := by
  induction k generalizing v m j with
  | zero => cases h; positivity
  | succ k ih =>
    rw [bcdValue] at h
    split at h
    · cases h
    · split at h
      · cases h
      · next t ht =>
        cases h
        cases j with
        | zero =>
          obtain rfl : v = 0 := by simpa using hv
          have hrest := ih (j := 0) ht (by decide)
          simpa using hrest
        | succ j =>
          rw [pow_succ] at hv
          have hrest := ih (j := j) ht (by omega)
          rw [pow_succ]
          omega

theorem signIsMinus_signCode (ascii neg : Bool) : signIsMinus (signCode ascii neg) = neg := by
  cases ascii <;> cases neg <;> rfl

theorem ten_le_signCode (ascii neg : Bool) : 10 ≤ signCode ascii neg := by
  cases ascii <;> cases neg <;> decide

variable {n m v j : Nat} {ascii neg : Bool}

theorem decFormat_lt (hn : 1 ≤ n) (ascii neg : Bool) (m : Nat) : decFormat ascii n m neg < 256 ^ n := by
  obtain ⟨k, hk⟩ : ∃ k, 2 * n = k + 1 := ⟨2 * n - 1, by omega⟩
  have hplaces : 256 ^ n = 16 * 16 ^ k := by rw [← pow_succ', ← hk, Nat.pow_mul]
  have hdigits := bcdDigits_lt k m
  have hsign := signCode_lt ascii neg
  rw [decFormat, hk, Nat.add_sub_cancel]
  omega

/-- A generated field is a valid one, of the digits and the sign it was generated from. -/
theorem decParse_decFormat (n : Nat) (ascii neg : Bool) (m : Nat) :
    decParse n (decFormat ascii n m neg) = some { mag := m % 10 ^ (2 * n - 1), neg := neg } := by
  have hsign := signCode_lt ascii neg
  have hlow : decFormat ascii n m neg % 16 = signCode ascii neg := by unfold decFormat; omega
  have hhigh : decFormat ascii n m neg / 16 = bcdDigits (2 * n - 1) m := by unfold decFormat; omega
  rw [decParse, hlow, hhigh, if_neg (ten_le_signCode ascii neg).not_gt, bcdValue_bcdDigits]
  simp only [signIsMinus_signCode]

/-- The magnitude of a packed number whose field begins with zero bytes. -/
theorem mag_lt_of_decParse {d : Dec} (h : decParse n v = some d) (hv : v < 256 ^ j) (hj : 1 ≤ j) :
    d.mag < 10 ^ (2 * j - 1) := by
  obtain ⟨k, hk⟩ : ∃ k, 2 * j = k + 1 := ⟨2 * j - 1, by omega⟩
  have hplaces : 256 ^ j = 16 * 16 ^ k := by rw [← pow_succ', ← hk, Nat.pow_mul]
  rw [decParse] at h
  split at h
  · cases h
  · split at h
    · cases h
    · next m hm =>
      cases h
      rw [hk, Nat.add_sub_cancel]
      exact lt_of_bcdValue hm (by omega)

/-- The bytes `DecStore` stores carry the sign of the exact number: minus where digits are left or one was lost, which
is so for every number below zero (R394). -/
theorem decStored_eq (ascii : Bool) (n : Nat) (v : Int) :
    decStored ascii n v = decFormat ascii n (v.natAbs % 10 ^ (2 * n - 1)) (decide (v < 0)) := by
  have hsign : (decide (v < 0) && (decide (v.natAbs % 10 ^ (2 * n - 1) ≠ 0) || decOverflow n v)) = decide (v < 0) := by
    rw [Bool.and_eq_left_iff_imp, decide_eq_true_eq, Bool.or_eq_true, decOverflow, decide_eq_true_eq, decide_eq_true_eq]
    intro hneg
    by_contra hnone
    obtain ⟨hdigits, hlost⟩ := not_or.mp hnone
    rw [Nat.mod_eq_of_lt (by omega)] at hdigits
    omega
  rw [decStored, hsign]

/-! ## Its bytes in storage -/

/-- The number made up by the bytes of a number. -/
theorem fieldNumber_of_bytes {f : Nat → Byte} (h : ∀ j < n, f j = BitVec.ofNat 8 (v / 256 ^ (n - 1 - j))) :
    fieldNumber f n = v % 256 ^ n := by
  induction n generalizing v with
  | zero => rw [pow_zero, Nat.mod_one, fieldNumber_zero]
  | succ n ih =>
    have hleft : ∀ j < n, f j = BitVec.ofNat 8 (v / 256 / 256 ^ (n - 1 - j)) := fun j hj => by
      have hplace : n + 1 - 1 - j = n - 1 - j + 1 := by omega
      rw [h j (by omega), hplace, pow_succ', Nat.div_div_eq_div_mul]
    have hlast : (f n).toNat = v % 256 := by
      rw [h n n.lt_succ_self, Nat.add_sub_cancel, Nat.sub_self, pow_zero, Nat.div_one, BitVec.toNat_ofNat]
    rw [fieldNumber_succ, ih hleft, hlast, pow_succ', Nat.mod_mul, Nat.add_comm]

/-- Bytes at the end of a field make up a number below the weight of those left of them, if those are zero. -/
theorem fieldNumber_lt_of_zeros {f : Nat → Byte} {k : Nat} (h : ∀ j < n, f j = 0) :
    fieldNumber f (n + k) < 256 ^ k := by
  induction k with
  | zero => rw [Nat.add_zero, fieldNumber_eq_zero_iff.mpr h, pow_zero]; exact Nat.one_pos
  | succ k ih =>
    have hbyte := (f (n + k)).isLt
    rw [← Nat.add_assoc, fieldNumber_succ, pow_succ']
    omega

theorem Memory.read_storeValue_place (mem : Memory) (a : Addr) (v : Nat) (hn : n ≤ 2 ^ 24) (hj : j < n) :
    (mem.storeValue a n v).read (a + BitVec.ofNat 24 j) = some (BitVec.ofNat 8 (v / 256 ^ (n - 1 - j))) := by
  have hplace : (a + BitVec.ofNat 24 j - a).toNat = j := toNat_addrPlus_sub (by omega)
  rw [Memory.read_storeValue mem v hn, hplace, if_pos hj]

theorem Memory.read_storeValue_outside (mem : Memory) {a b : Addr} (v : Nat) (hn : n ≤ 2 ^ 24)
    (hb : n ≤ (b - a).toNat) : (mem.storeValue a n v).read b = mem.read b := by
  rw [Memory.read_storeValue mem v hn, if_neg (by omega)]

variable {s : State} {a : Addr} {mem : Memory}

/-- The bytes of a generated field stand at `a`. -/
def Memory.HoldsPacked (mem : Memory) (a : Addr) (n : Nat) (ascii : Bool) (m : Nat) (neg : Bool) : Prop :=
  ∀ j < n, mem.read (a + BitVec.ofNat 24 j) = some (BitVec.ofNat 8 (decFormat ascii n m neg / 256 ^ (n - 1 - j)))

theorem Memory.holdsPacked_storeValue (hn : n ≤ 2 ^ 24) :
    (mem.storeValue a n (decFormat ascii n m neg)).HoldsPacked a n ascii m neg := fun _ hj =>
  Memory.read_storeValue_place mem a _ hn hj

theorem State.decAt_of_holdsPacked (h : s.mem.HoldsPacked a n ascii m neg) (hn : 1 ≤ n) (hm : m < 10 ^ (2 * n - 1)) :
    s.decAt a n = .ok { mag := m, neg := neg } := by
  have hgiven : s.given a n := fun j hj => Option.ne_none_iff_exists'.mpr ⟨_, h j hj⟩
  have hvalue := State.value_of_given hgiven
  rw [fieldNumber_of_bytes fun j hj => State.byteVal_of_byteAt (h j hj),
    Nat.mod_eq_of_lt (decFormat_lt hn ..)] at hvalue
  rw [State.decAt, hvalue]
  simp only [decParse_decFormat, Nat.mod_eq_of_lt hm]

theorem State.sign_of_holdsPacked (h : s.mem.HoldsPacked a n ascii m neg) (hn : 1 ≤ n) :
    s.halfByte a (2 * n - 1) = signCode ascii neg := by
  have hlast := State.byteVal_toNat_eq_halves s a (n - 1)
  have hright : 2 * (n - 1) + 1 = 2 * n - 1 := by omega
  rw [State.byteVal_of_byteAt (h (n - 1) (by omega)), Nat.sub_self, pow_zero, Nat.div_one, BitVec.toNat_ofNat, hright,
    decFormat_last_byte ascii neg m hn] at hlast
  have hhalf := s.halfByte_lt a (2 * n - 1)
  have hsign := signCode_lt ascii neg
  omega

end Sys2Proof.Machine
end

section
/-! PROOFS. ZAP, AP, SP and CP as one form (46_ss_decimal R403 to R406): the access checks, the reading of the operands
and the ends. -/

namespace Sys2Proof.Machine

variable {s : State} {i : Instr} {w : DecimalForm} {p q : Dec} {v : Int} {stop : Stop}

/-! ## The form as the model has it -/

/-- The state with the result fields of a decimal instruction free: the first operand where it is stored into, and
`cc`. -/
def DecimalForm.freed (w : DecimalForm) (s : State) : State :=
  if w.stores then (s.freeBytes w.a1 w.n1).freeCC else s.freeCC

/-- ZAP with an overlap that leaves the result open (R393, D26; log 9). -/
def DecimalForm.openOverlap (w : DecimalForm) : Bool :=
  !w.readsFirst && zapOverlap (w.a1 + BitVec.ofNat 24 (w.n1 - 1)) w.a2 w.n2

/-- The end of a decimal instruction with the exact result `v`. -/
def DecimalForm.finish (w : DecimalForm) (s : State) (v : Int) : Result :=
  if w.stores then
    if w.openOverlap then (w.freed s).completeWith (s.masked 1 (decOverflow w.n1 v) .decimalOverflow)
    else s.finishDecimal w.a1 w.n1 v
  else (s.setCC (signCode3 v)).complete

/-- The second operand read, the first being `p`. -/
def DecimalForm.withSecond (w : DecimalForm) (s : State) (p : Dec) : Result :=
  s.withDecimal w.a2 w.n2 (w.freed s) fun q => w.finish s (w.value p.value q.value)

/-- Both operands read, the first only where the instruction reads it; in ZAP any number stands for it. -/
def DecimalForm.compute (w : DecimalForm) (s : State) : Result :=
  if w.readsFirst then s.withDecimal w.a1 w.n1 (w.freed s) (w.withSecond s) else w.withSecond s ⟨0, false⟩

/-- Behind its access checks. -/
def DecimalForm.run (w : DecimalForm) (s : State) : Result :=
  match s.fieldFault w.a1 w.n1 w.a2 w.n2 w.stores with
  | some c => accessTerminated (w.freed s) c
  | none => w.compute s

theorem compareInt_eq_signCode3 (p q : Int) : compareInt p q = signCode3 (p - q) := by
  unfold compareInt signCode3
  simp only [sub_eq_zero, sub_neg]

/-- What holds of the four forms. -/
structure DecimalForm.Regular (w : DecimalForm) : Prop where
  first_pos : 1 ≤ w.n1
  first_le : w.n1 ≤ 16
  second_pos : 1 ≤ w.n2
  reads_of_compares : w.stores = false → w.readsFirst = true
  value_of_unread : w.readsFirst = false → ∀ p p' q, w.value p q = w.value p' q

theorem exec_of_decimalForm (hw : s.decimalForm i = some w) : w.Regular ∧ exec i s = w.run s := by
  cases i with
  | ap l1 l2 | sp l1 l2 =>
    cases hw
    exact ⟨⟨Nat.le_add_left .., l1.isLt, Nat.le_add_left .., nofun, nofun⟩, rfl⟩
  | zap l1 l2 =>
    cases hw
    exact ⟨⟨Nat.le_add_left .., l1.isLt, Nat.le_add_left .., nofun, fun _ _ _ _ => rfl⟩, rfl⟩
  | cp l1 l2 b1 d1 b2 d2 =>
    cases hw
    refine ⟨⟨Nat.le_add_left .., l1.isLt, Nat.le_add_left .., fun _ => rfl, nofun⟩, ?_⟩
    change execCp l1 l2 b1 d1 b2 d2 s = _
    unfold execCp
    simp only [compareInt_eq_signCode3]
    rfl
  | _ => cases hw

/-! ## Stops -/

theorem DecimalForm.fieldFreed (w : DecimalForm) (s : State) :
    s.FieldFreed (w.freed s) w.a1 (if w.stores = true then w.n1 else 0) := by
  unfold DecimalForm.freed
  split
  · exact (State.FieldFreed.freeBytes ..).freeCC
  · exact (State.FieldFreed.refl ..).freeCC

/-- A condition met while the operands are checked and read, with nothing pending. -/
theorem DecimalForm.exists_terminated (w : DecimalForm) (hifr : s.ifr = 0) (c : Condition) (info : Info) :
    ∃ t, terminateBy (w.freed s) (.raised c info) = .next t ∧
      s.terminatedField t w.a1 (if w.stores = true then w.n1 else 0) (c.priority - 1) c info :=
  ⟨_, terminateBy_eq_suppressed ((w.fieldFreed s).ifr_eq.trans hifr) c info, (w.fieldFreed s).terminatedField⟩

theorem State.withDecimal_of_error {a : Addr} {n : Nat} (h : s.decAt a n = .error stop) (freed : State)
    (k : Dec → Result) : s.withDecimal a n freed k = terminateBy freed stop := by
  rw [State.withDecimal, h]

theorem State.withDecimal_of_ok {a : Addr} {n : Nat} (h : s.decAt a n = .ok p) (freed : State)
    (k : Dec → Result) : s.withDecimal a n freed k = k p := by
  rw [State.withDecimal, h]

theorem DecimalForm.withSecond_of_ok (hq : s.decAt w.a2 w.n2 = .ok q) (p : Dec) :
    w.withSecond s p = w.finish s (w.value p.value q.value) := State.withDecimal_of_ok hq ..

theorem DecimalForm.withSecond_of_error (hstop : s.decAt w.a2 w.n2 = .error stop) (p : Dec) :
    w.withSecond s p = terminateBy (w.freed s) stop := State.withDecimal_of_error hstop ..

theorem DecimalForm.run_of_fault {c : AddressCause} (h : s.fieldFault w.a1 w.n1 w.a2 w.n2 w.stores = some c) :
    w.run s = terminateBy (w.freed s) (.address c) := by
  rw [DecimalForm.run, h]
  rfl

section Passed

variable (h1 : s.field w.a1 w.n1) (h2 : s.field w.a2 w.n2) (ho : w.stores = true → s.openField w.a1 w.n1)
include h1 h2 ho

theorem DecimalForm.run_of_open : w.run s = w.compute s := by
  rw [DecimalForm.run, State.fieldFault_of_open h1 h2 ho]

theorem DecimalForm.run_of_first_stop (hr : w.readsFirst = true) (hstop : s.decAt w.a1 w.n1 = .error stop) :
    w.run s = terminateBy (w.freed s) stop := by
  rw [DecimalForm.run_of_open h1 h2 ho, DecimalForm.compute, if_pos hr, State.withDecimal_of_error hstop]

theorem DecimalForm.run_of_second_stop (hfirst : w.readsFirst = true → ∃ p, s.decAt w.a1 w.n1 = .ok p)
    (hstop : s.decAt w.a2 w.n2 = .error stop) : w.run s = terminateBy (w.freed s) stop := by
  rw [DecimalForm.run_of_open h1 h2 ho, DecimalForm.compute]
  split
  · next hr =>
    obtain ⟨p, hp⟩ := hfirst hr
    rw [State.withDecimal_of_ok hp, DecimalForm.withSecond_of_error hstop]
  · exact DecimalForm.withSecond_of_error hstop _

theorem DecimalForm.run_of_ok (hw : w.Regular) (hp : w.readsFirst = true → s.decAt w.a1 w.n1 = .ok p)
    (hq : s.decAt w.a2 w.n2 = .ok q) : w.run s = w.finish s (w.value p.value q.value) := by
  rw [DecimalForm.run_of_open h1 h2 ho, DecimalForm.compute]
  split
  · next hr => rw [State.withDecimal_of_ok (hp hr), DecimalForm.withSecond_of_ok hq]
  · next hr =>
    rw [DecimalForm.withSecond_of_ok hq, hw.value_of_unread (Bool.eq_false_of_not_eq_true hr)]

end Passed

/-! ## Results stored -/

section Stored

variable {a : Addr} {n : Nat}

/-- An overflow raises its condition only where `pm{1}` is 1 (R395). -/
theorem decOverflow_masked (s : State) (n : Nat) (v : Int) : s.masked 1 (decOverflow n v) .decimalOverflow =
    if 10 ^ (2 * n - 1) ≤ v.natAbs then if s.pm.getLsbD 2 = true then some .decimalOverflow else none else none := by
  by_cases hover : 10 ^ (2 * n - 1) ≤ v.natAbs <;> simp [State.masked, State.pmBit, decOverflow, hover]

theorem decCC_eq (n : Nat) (v : Int) :
    decCC v (decOverflow n v) = if 10 ^ (2 * n - 1) ≤ v.natAbs then 3 else signCode3 v := by
  simp only [decCC, decOverflow, decide_eq_true_eq]
  rfl

/-- Whatever condition is taken at the end, the result is stored; the code and the condition by the overflow and the
mask bit `pm{1}` (R394, R395). -/
theorem State.finishDecimal_next (s : State) (a : Addr) (n : Nat) (v : Int) :
    ∃ t, s.finishDecimal a n v = .next t ∧ t.mem = s.mem.storeValue a n (decStored s.cfg.asciiMode n v) ∧
      (v.natAbs < 10 ^ (2 * n - 1) → t = { s with mem := t.mem, cc := signCode3 v, pc := s.next }) ∧
      (10 ^ (2 * n - 1) ≤ v.natAbs → s.pm.getLsbD 2 = false → t = { s with mem := t.mem, cc := 3, pc := s.next }) ∧
      (10 ^ (2 * n - 1) ≤ v.natAbs → s.pm.getLsbD 2 = true → s.ifr = 0 →
        t = { s with mem := t.mem, cc := 3, pc := s.next }.interrupted 29 .decimalOverflow .none) := by
  rw [State.finishDecimal, decOverflow_masked, decCC_eq]
  generalize s.mem.storeValue a n (decStored s.cfg.asciiMode n v) = mem
  by_cases hover : 10 ^ (2 * n - 1) ≤ v.natAbs
  · rw [if_pos hover, if_pos hover]
    cases hmask : s.pm.getLsbD 2 with
    | true =>
      refine ⟨_, rfl, State.raise_mem .., fun h => absurd hover h.not_ge, nofun, fun _ _ hifr => ?_⟩
      rw [State.raise_mem]
      exact State.raise_eq_interrupted (s := ((s.setMem mem).setCC 3).advance) hifr .decimalOverflow .none
    | false => exact ⟨_, rfl, rfl, fun h => absurd hover h.not_ge, fun _ _ => rfl, nofun⟩
  · rw [if_neg hover, if_neg hover]
    exact ⟨_, rfl, rfl, fun _ => rfl, fun h => absurd h hover, fun h => absurd h hover⟩

/-- The result is the generated field of the low digits (R394). -/
theorem Memory.holdsPacked_decStored {mem : Memory} {ascii : Bool} (hn : n ≤ 2 ^ 24) :
    (mem.storeValue a n (decStored ascii n v)).HoldsPacked a n ascii
      (v.natAbs % 10 ^ (2 * n - 1)) (decide (v < 0)) := by
  rw [decStored_eq]
  exact Memory.holdsPacked_storeValue hn

theorem DecimalForm.openOverlap_eq_true (hr : w.readsFirst = false)
    (h : (w.a1 + BitVec.ofNat 24 (w.n1 - 1) - w.a2).toNat + 1 < w.n2) : w.openOverlap = true := by
  simpa [DecimalForm.openOverlap, zapOverlap, hr] using h

theorem DecimalForm.openOverlap_eq_false
    (h : w.readsFirst = true ∨ w.n2 ≤ (w.a1 + BitVec.ofNat 24 (w.n1 - 1) - w.a2).toNat + 1) :
    w.openOverlap = false := by
  rcases h with hr | hplace
  · rw [DecimalForm.openOverlap, hr]; rfl
  · rw [DecimalForm.openOverlap, zapOverlap, decide_eq_false hplace.not_gt, Bool.and_false]

theorem DecimalForm.finish_of_stores (hs : w.stores = true) (ho : w.openOverlap = false) (v : Int) :
    w.finish s v = s.finishDecimal w.a1 w.n1 v := by
  rw [DecimalForm.finish, if_pos hs, ho, if_neg Bool.false_ne_true]

theorem DecimalForm.finish_of_openOverlap (hs : w.stores = true) (ho : w.openOverlap = true)
    (hv : v.natAbs < 10 ^ (2 * w.n1 - 1)) : w.finish s v = (w.freed s).complete := by
  rw [DecimalForm.finish, if_pos hs, if_pos ho, decOverflow_masked, if_neg (by omega)]
  rfl

theorem DecimalForm.finish_of_compares (hs : w.stores = false) (v : Int) :
    w.finish s v = .next { s with cc := signCode3 v, pc := s.next } := by
  rw [DecimalForm.finish, hs, if_neg Bool.false_ne_true]
  rfl

end Stored

end Sys2Proof.Machine
end

section
/-! PROOFS. MP and DP (46_ss_decimal R407, R408): the checks and the reading of the factors, the size of a product, and
quotient and remainder side by side. -/

namespace Sys2Proof.Machine

variable {s : State} {l1 l2 : RegNum} {a a1 a2 b : Addr} {n k : Nat} {p q : Dec} {stop : Stop}

/-! ## Behind the length rule -/

section Factors

variable {f : Dec → Dec → Result} (h7 : l2.toNat ≤ 7) (hl : l2.toNat < l1.toNat)
include h7 hl

theorem State.withFactors_of_lengths : s.withFactors l1 l2 a1 a2 f =
    s.withFields a1 (l1.toNat + 1) a2 (l2.toNat + 1) (s.freeBytes a1 (l1.toNat + 1))
      (s.withDecimal a1 (l1.toNat + 1) (s.freeBytes a1 (l1.toNat + 1)) fun p =>
        s.withDecimal a2 (l2.toNat + 1) (s.freeBytes a1 (l1.toNat + 1)) fun q => f p q) :=
  if_neg (by omega)

theorem State.withFactors_of_fault {c : AddressCause}
    (h : s.fieldFault a1 (l1.toNat + 1) a2 (l2.toNat + 1) true = some c) :
    s.withFactors l1 l2 a1 a2 f = terminateBy (s.freeBytes a1 (l1.toNat + 1)) (.address c) := by
  rw [State.withFactors_of_lengths h7 hl, State.withFields, h]
  rfl

variable (ho : s.openField a1 (l1.toNat + 1)) (h2 : s.field a2 (l2.toNat + 1))
include ho h2

theorem State.withFactors_of_open : s.withFactors l1 l2 a1 a2 f =
    s.withDecimal a1 (l1.toNat + 1) (s.freeBytes a1 (l1.toNat + 1)) fun p =>
      s.withDecimal a2 (l2.toNat + 1) (s.freeBytes a1 (l1.toNat + 1)) fun q => f p q := by
  obtain ⟨h1, -⟩ := id ho
  rw [State.withFactors_of_lengths h7 hl, State.withFields, State.fieldFault_of_open h1 h2 fun _ => ho]

theorem State.withFactors_of_first_stop (hstop : s.decAt a1 (l1.toNat + 1) = .error stop) :
    s.withFactors l1 l2 a1 a2 f = terminateBy (s.freeBytes a1 (l1.toNat + 1)) stop := by
  rw [State.withFactors_of_open h7 hl ho h2, State.withDecimal_of_error hstop]

variable (hp : s.decAt a1 (l1.toNat + 1) = .ok p)
include hp

theorem State.withFactors_of_second_stop (hstop : s.decAt a2 (l2.toNat + 1) = .error stop) :
    s.withFactors l1 l2 a1 a2 f = terminateBy (s.freeBytes a1 (l1.toNat + 1)) stop := by
  rw [State.withFactors_of_open h7 hl ho h2, State.withDecimal_of_ok hp, State.withDecimal_of_error hstop]

theorem State.withFactors_of_ok (hq : s.decAt a2 (l2.toNat + 1) = .ok q) : s.withFactors l1 l2 a1 a2 f = f p q := by
  rw [State.withFactors_of_open h7 hl ho h2, State.withDecimal_of_ok hp, State.withDecimal_of_ok hq]

end Factors

/-- A condition that terminates with the bytes of a field free, and no other result. -/
theorem terminateBy_freeBytes (hifr : s.ifr = 0) (a : Addr) (n : Nat) (c : Condition) (info : Info) :
    ∃ t, terminateBy (s.freeBytes a n) (.raised c info) = .next t ∧ t.cc = s.cc ∧
      s.terminatedField t a n (c.priority - 1) c info :=
  ⟨_, terminateBy_eq_suppressed ((s.freeBytes_ifr a n).trans hifr) c info, s.freeBytes_cc a n,
    (State.FieldFreed.freeBytes ..).terminatedField⟩

/-- MP and DP differ only in what they make of the factors. -/
theorem exists_exec_eq_withFactors {i : Instr} {b1 b2 : RegNum} {d1 d2 : Disp} (s : State)
    (hi : i = .mp l1 l2 b1 d1 b2 d2 ∨ i = .dp l1 l2 b1 d1 b2 d2) :
    ∃ f, exec i s = s.withFactors l1 l2 (s.eab d1 b1) (s.eab d2 b2) f := by
  rcases hi with rfl | rfl <;> exact ⟨_, rfl⟩

/-! ## The size of a number read -/

/-- The magnitude of a packed operand of which the first `k` bytes are zero. -/
theorem State.mag_lt_of_zeros {d : Dec} (hd : s.decAt a n = .ok d) (hk : k < n)
    (h : ∀ j < k, s.byteVal (a + BitVec.ofNat 24 j) = 0) : d.mag < 10 ^ (2 * (n - k) - 1) := by
  have hgiven := State.given_of_decAt_ok hd
  obtain ⟨v, hv, hparse, -⟩ := State.exists_decParse_of_given hgiven
  obtain rfl : _ = v := Option.some.inj ((State.value_of_given hgiven).symm.trans hv)
  have hsize := fieldNumber_lt_of_zeros (k := n - k) h
  rw [Nat.add_sub_cancel' hk.le] at hsize
  exact mag_lt_of_decParse ((hparse d).mp hd) hsize (by omega)

theorem State.mag_lt_of_decAt {d : Dec} (hd : s.decAt a n = .ok d) (hn : 1 ≤ n) : d.mag < 10 ^ (2 * n - 1) :=
  State.mag_lt_of_zeros (k := 0) hd hn nofun

theorem State.value_eq_zero_iff (h : s.given a n) :
    s.mem.value a n = some 0 ↔ ∀ j < n, s.byteVal (a + BitVec.ofNat 24 j) = 0 := by
  rw [State.value_of_given h, Option.some.injEq, fieldNumber_eq_zero_iff]

/-- With as many leading zero bytes as the multiplier is long, the product fits into the multiplicand's field (R407). -/
theorem State.product_lt {n1 n2 : Nat} (hp : s.decAt a1 n1 = .ok p) (hq : s.decAt a2 n2 = .ok q) (h2 : 1 ≤ n2)
    (h21 : n2 < n1) (h : ∀ j < n2, s.byteVal (a1 + BitVec.ofNat 24 j) = 0) : p.mag * q.mag < 10 ^ (2 * n1 - 1) := by
  have hplaces : 2 * (n1 - n2) - 1 + (2 * n2 - 1) ≤ 2 * n1 - 1 := by omega
  calc p.mag * q.mag < 10 ^ (2 * (n1 - n2) - 1) * 10 ^ (2 * n2 - 1) :=
        Nat.mul_lt_mul'' (State.mag_lt_of_zeros hp h21 h) (State.mag_lt_of_decAt hq h2)
    _ = 10 ^ (2 * (n1 - n2) - 1 + (2 * n2 - 1)) := (pow_add ..).symm
    _ ≤ 10 ^ (2 * n1 - 1) := Nat.pow_le_pow_right (by decide) hplaces

/-! ## Two fields side by side -/

theorem toNat_sub_place (hk : k ≤ (b - a).toNat) : (b - (a + BitVec.ofNat 24 k)).toNat = (b - a).toNat - k := by
  bv_omega

/-- A place left of another comes last when the count starts at that other. -/
theorem toNat_place_sub_place {j : Nat} (hj : j < k) (hk : k ≤ 2 ^ 24) :
    (a + BitVec.ofNat 24 j - (a + BitVec.ofNat 24 k)).toNat = 2 ^ 24 - (k - j) := by
  bv_omega

theorem State.halfByte_place (s : State) (a : Addr) (k i : Nat) :
    s.halfByte (a + BitVec.ofNat 24 k) i = s.halfByte a (2 * k + i) := by
  have hbyte : (2 * k + i) / 2 = k + i / 2 := by omega
  have hhalf : (2 * k + i) % 2 = i % 2 := by omega
  rw [State.halfByte, State.halfByte, hbyte, hhalf, BitVec.ofNat_add, BitVec.add_assoc]

/-- A store of `n` bytes right of a field of `k` bytes leaves the field. -/
theorem Memory.HoldsPacked.storeValue_right {mem : Memory} {ascii neg : Bool} {m : Nat}
    (h : mem.HoldsPacked a k ascii m neg) (hkn : k + n ≤ 2 ^ 24) (v : Nat) :
    (mem.storeValue (a + BitVec.ofNat 24 k) n v).HoldsPacked a k ascii m neg := fun j hj => by
  rw [Memory.read_storeValue_outside mem v (by omega) (by rw [toNat_place_sub_place hj (by omega)]; omega)]
  exact h j hj

/-- A byte outside both fields. -/
theorem Memory.read_storeValue_right (mem : Memory) (v : Nat) (hn : n ≤ 2 ^ 24) (hb : k + n ≤ (b - a).toNat) :
    (mem.storeValue (a + BitVec.ofNat 24 k) n v).read b = mem.read b :=
  Memory.read_storeValue_outside mem v hn (by rw [toNat_sub_place (by omega)]; omega)

/-- What is read of a state whose storage holds two generated fields, of `k` and of `n` bytes, side by side. -/
theorem State.read_sideBySide {mem : Memory} {ascii neg neg' : Bool} {m r n1 : Nat} (hk : 1 ≤ k) (hn : 1 ≤ n)
    (hsum : k + n = n1) (hn1 : n1 ≤ 2 ^ 24) (hm : m < 10 ^ (2 * k - 1)) (hr : r < 10 ^ (2 * n - 1))
    (h : s.mem = (mem.storeValue a k (decFormat ascii k m neg)).storeValue (a + BitVec.ofNat 24 k) n
      (decFormat ascii n r neg')) :
    s.decAt a k = .ok { mag := m, neg := neg } ∧ s.halfByte a (2 * k - 1) = signCode ascii neg ∧
      s.decAt (a + BitVec.ofNat 24 k) n = .ok { mag := r, neg := neg' } ∧
      s.halfByte a (2 * n1 - 1) = signCode ascii neg' ∧
      ∀ b : Addr, n1 ≤ (b - a).toNat → s.byteAt b = mem.read b := by
  have hleft : s.mem.HoldsPacked a k ascii m neg :=
    h ▸ (Memory.holdsPacked_storeValue (by omega)).storeValue_right (by omega) _
  have hright : s.mem.HoldsPacked (a + BitVec.ofNat 24 k) n ascii r neg' :=
    h ▸ Memory.holdsPacked_storeValue (by omega)
  have hplace : 2 * n1 - 1 = 2 * k + (2 * n - 1) := by omega
  refine ⟨State.decAt_of_holdsPacked hleft hk hm, State.sign_of_holdsPacked hleft hk,
    State.decAt_of_holdsPacked hright hn hr, ?_, fun b hb => ?_⟩
  · rw [hplace, ← State.halfByte_place]
    exact State.sign_of_holdsPacked hright hn
  · rw [State.byteAt, h, Memory.read_storeValue_right _ _ (by omega) (by omega)]
    exact Memory.read_storeValue_outside _ _ (by omega) (by omega)

/-! ## The ends of MP and DP -/

variable {b1 b2 : RegNum} {d1 d2 : Disp} (h7 : l2.toNat ≤ 7) (hl : l2.toNat < l1.toNat)
  (ho : s.openField (s.eab d1 b1) (l1.toNat + 1)) (h2 : s.field (s.eab d2 b2) (l2.toNat + 1))
  (hp : s.decAt (s.eab d1 b1) (l1.toNat + 1) = .ok p) (hq : s.decAt (s.eab d2 b2) (l2.toNat + 1) = .ok q)
include h7 hl ho h2 hp hq

theorem exec_mp_of_zeros (hzero : ∀ j < l2.toNat + 1, s.byteVal (s.eab d1 b1 + BitVec.ofNat 24 j) = 0) :
    exec (.mp l1 l2 b1 d1 b2 d2) s = (s.setMem (s.mem.storeValue (s.eab d1 b1) (l1.toNat + 1)
      (decFormat s.cfg.asciiMode (l1.toNat + 1) (p.mag * q.mag) (xor p.neg q.neg)))).complete := by
  have hgiven : s.given (s.eab d1 b1) (l2.toNat + 1) := fun j hj => State.given_of_decAt_ok hp j (by omega)
  exact (State.withFactors_of_ok h7 hl ho h2 hp hq).trans (if_pos ((State.value_eq_zero_iff hgiven).mpr hzero))

theorem exec_mp_of_not_zeros (hzero : ¬ ∀ j < l2.toNat + 1, s.byteVal (s.eab d1 b1 + BitVec.ofNat 24 j) = 0) :
    exec (.mp l1 l2 b1 d1 b2 d2) s = terminateBy (s.freeBytes (s.eab d1 b1) (l1.toNat + 1)) .data := by
  have hgiven : s.given (s.eab d1 b1) (l2.toNat + 1) := fun j hj => State.given_of_decAt_ok hp j (by omega)
  exact (State.withFactors_of_ok h7 hl ho h2 hp hq).trans (if_neg (mt (State.value_eq_zero_iff hgiven).mp hzero))

theorem exec_dp_of_quotient (hzero : q.mag ≠ 0)
    (hfits : p.mag / q.mag < 10 ^ (2 * (l1.toNat + 1 - (l2.toNat + 1)) - 1)) :
    exec (.dp l1 l2 b1 d1 b2 d2) s =
      (s.setMem ((s.mem.storeValue (s.eab d1 b1) (l1.toNat + 1 - (l2.toNat + 1))
          (decFormat s.cfg.asciiMode (l1.toNat + 1 - (l2.toNat + 1)) (p.mag / q.mag) (xor p.neg q.neg))).storeValue
        (s.eab d1 b1 + BitVec.ofNat 24 (l1.toNat + 1 - (l2.toNat + 1))) (l2.toNat + 1)
        (decFormat s.cfg.asciiMode (l2.toNat + 1) (p.mag % q.mag) p.neg))).complete :=
  (State.withFactors_of_ok h7 hl ho h2 hp hq).trans (if_neg (not_or.mpr ⟨hzero, hfits.not_ge⟩))

theorem exec_dp_of_no_quotient
    (h : q.mag = 0 ∨ 10 ^ (2 * (l1.toNat + 1 - (l2.toNat + 1)) - 1) ≤ p.mag / q.mag) :
    exec (.dp l1 l2 b1 d1 b2 d2) s = s.suppress .divideError .none :=
  (State.withFactors_of_ok h7 hl ho h2 hp hq).trans (if_pos h)

end Sys2Proof.Machine
end

section
/-! PROOFS. The decimal moves as one walk from the right (46_ss_decimal R393, R400 to R402; log 10): what storage holds
after `k` bytes, what a step fetches, and where a byte without value stops the walk. -/

namespace Sys2Proof.Machine

variable {s : State} {w : MoveForm} {m : Memory} {a b e : Addr} {j k l p r : Nat}

/-! ## Places counted from the right -/

theorem toNat_sub_leftward (hk : k < 2 ^ 24) : (e - (e - BitVec.ofNat 24 k)).toNat = k := by
  rw [sub_sub_cancel, BitVec.toNat_ofNat, Nat.mod_eq_of_lt hk]

theorem leftward_toNat_sub (e b : Addr) : e - BitVec.ofNat 24 (e - b).toNat = b := by
  rw [BitVec.ofNat_toNat, BitVec.setWidth_eq, sub_sub_cancel]

theorem leftward_ne (hk : k < 2 ^ 24) (h : (e - b).toNat ≠ k) : e - BitVec.ofNat 24 k ≠ b := by
  rintro rfl
  exact h (toNat_sub_leftward hk)

/-- The model counts the places of a field from the left, the statements from the right. -/
theorem addrPlus_sub (a : Addr) (hk : k ≤ l) : addrPlus a (l - k) = a + BitVec.ofNat 24 l - BitVec.ofNat 24 k := by
  rw [eq_sub_iff_add_eq, addrPlus, BitVec.add_assoc, ← BitVec.ofNat_add, Nat.sub_add_cancel hk]

/-- A byte outside a field, counted from its left end, is outside it counted from its right end. -/
theorem lt_toNat_right_sub (h : l + 1 ≤ (b - a).toNat) :
    l + 1 ≤ (a + BitVec.ofNat 24 l - b).toNat := by
  bv_omega

/-! ## Storage after `k` bytes -/

/-- The rightmost byte of the first operand. -/
abbrev MoveForm.right1 (w : MoveForm) : Addr := w.a1 + BitVec.ofNat 24 w.l1

/-- The rightmost byte of the second operand. -/
abbrev MoveForm.right2 (w : MoveForm) : Addr := w.a2 + BitVec.ofNat 24 w.l2

/-- `S(p)` as it stands when `j` bytes are stored, `m` being storage then or later. -/
def MoveForm.source (w : MoveForm) (s : State) (m : Memory) (j p : Nat) : Byte :=
  if p ≤ w.l2 then seenLeftward s (s.setMem m) w.right1 j (w.right2 - BitVec.ofNat 24 p) else 0

/-- Every byte that step `k` reads has a value. -/
def MoveForm.ReadyAt (w : MoveForm) (s : State) (k : Nat) : Prop :=
  (k = 0 → w.readsFirst = true → s.byteAt w.right1 ≠ none) ∧
    ∀ j ∈ w.needs k, j ≤ w.l2 → s.givenLeftward w.right1 k (w.right2 - BitVec.ofNat 24 j)

/-- `m` is the storage of `s` after the rightmost `k` bytes of the move. -/
structure MoveForm.Moved (w : MoveForm) (s : State) (k : Nat) (m : Memory) : Prop where
  stored : ∀ j < k, m.read (w.right1 - BitVec.ofNat 24 j) = some (w.result (s.byteVal w.right1) (w.source s m) j)
  kept : ∀ b : Addr, k ≤ (w.right1 - b).toNat → m.read b = s.byteAt b

theorem MoveForm.Moved.refl (w : MoveForm) (s : State) : w.Moved s 0 s.mem := ⟨nofun, fun _ _ => rfl⟩

/-- A byte read after `k` steps is the one the statements name. -/
theorem MoveForm.Moved.read_of_given (h : w.Moved s k m) (hb : s.givenLeftward w.right1 k b) :
    m.read b = some (seenLeftward s (s.setMem m) w.right1 k b) := by
  unfold seenLeftward
  split
  · next hin =>
    have hread := h.stored _ hin
    rw [leftward_toNat_sub] at hread
    rw [hread, State.byteVal_of_byteAt (s := s.setMem m) hread]
  · next hout =>
    rw [h.kept b (by omega)]
    exact State.read_of_ne_none (hb.resolve_left hout)

theorem MoveForm.Moved.read_of_not_given (h : w.Moved s k m) (hb : ¬ s.givenLeftward w.right1 k b) :
    m.read b = none := by
  rw [State.givenLeftward, not_or, not_ne_iff, Nat.not_lt] at hb
  obtain ⟨hout, hnone⟩ := hb
  rw [h.kept b hout, hnone]

/-! ## The source bytes of a step -/

theorem MoveForm.Moved.sourceByte_of_given (h : w.Moved s k m)
    (hp : p ≤ w.l2 → s.givenLeftward w.right1 k (w.right2 - BitVec.ofNat 24 p)) :
    sourceByte m w.a2 w.l2 p = some (w.source s m k p) := by
  unfold sourceByte MoveForm.source
  split
  · next hin => rw [addrPlus_sub _ hin, h.read_of_given (hp hin)]
  · rfl

theorem MoveForm.Moved.sourceByte_of_not_given (h : w.Moved s k m) (hp : p ≤ w.l2)
    (hnot : ¬ s.givenLeftward w.right1 k (w.right2 - BitVec.ofNat 24 p)) : sourceByte m w.a2 w.l2 p = none := by
  rw [sourceByte, if_pos hp, addrPlus_sub _ hp, h.read_of_not_given hnot]

/-- Later bytes do not change what an earlier step has seen. -/
theorem MoveForm.source_write (hk : k < 2 ^ 24) (hj : j ≤ k) (v : Byte) :
    w.source s (m.write (w.right1 - BitVec.ofNat 24 k) v) j p = w.source s m j p := by
  unfold MoveForm.source seenLeftward
  split
  · split
    · simp only [State.byteVal, State.byteAt_setMem]
      rw [Memory.read_write_ne _ _ _ _ (leftward_ne hk (by omega))]
    · rfl
  · rfl

/-! ## One byte more -/

/-- What holds of the three forms: a step uses source bytes of its own and of earlier steps only. -/
structure MoveForm.Regular (w : MoveForm) : Prop where
  length_lt : w.l1 < 2 ^ 24
  result_congr : ∀ (old : Byte) (src src' : Nat → Nat → Byte) (k : Nat), (∀ j ≤ k, ∀ p, src j p = src' j p) →
    w.result old src k = w.result old src' k

/-- The byte that step `k` stores into the storage `m` it finds. -/
def MoveForm.nextByte (w : MoveForm) (s : State) (m : Memory) (k : Nat) : Byte :=
  w.result (s.byteVal w.right1) (w.source s m) k

/-- Storage after step `k`, which finds `m`. -/
def MoveForm.nextStorage (w : MoveForm) (s : State) (m : Memory) (k : Nat) : Memory :=
  m.write (w.right1 - BitVec.ofNat 24 k) (w.nextByte s m k)

theorem MoveForm.Moved.next (h : w.Moved s k m) (hw : w.Regular) (hk : k < 2 ^ 24) :
    w.Moved s (k + 1) (w.nextStorage s m k) := by
  have hseen (j : Nat) (hj : j ≤ k) : w.result (s.byteVal w.right1) (w.source s (w.nextStorage s m k)) j =
      w.result (s.byteVal w.right1) (w.source s m) j :=
    hw.result_congr _ _ _ _ fun i hi p => MoveForm.source_write hk (hi.trans hj) _
  refine ⟨fun j hj => ?_, fun b hb => ?_⟩
  · rw [hseen j (by omega)]
    rcases Nat.lt_succ_iff_lt_or_eq.mp hj with hlt | rfl
    · rw [MoveForm.nextStorage, Memory.read_write_ne _ _ _ _
        (leftward_ne hk (by rw [toNat_sub_leftward (by omega)]; omega))]
      exact h.stored j hlt
    · exact Memory.read_write_self ..
  · rw [MoveForm.nextStorage, Memory.read_write_ne _ _ _ _ (leftward_ne hk (by omega))]
    exact h.kept b (by omega)

/-! ## The walk -/

/-- `walk r k m` makes `r` steps of the move from step `k` on, starting from the storage `m`. -/
structure MoveForm.Walk (w : MoveForm) (s : State) (walk : Nat → Nat → Memory → Option Memory) : Prop where
  done : ∀ k m, walk 0 k m = some m
  step : ∀ r k m, w.Moved s k m → k ≤ w.l1 → w.ReadyAt s k → walk (r + 1) k m = walk r (k + 1) (w.nextStorage s m k)
  stop : ∀ r k m, w.Moved s k m → ¬ w.ReadyAt s k → walk (r + 1) k m = none

variable {walk : Nat → Nat → Memory → Option Memory}

/-- The walk over bytes that have values: `k` steps of it, whatever is left to do. -/
theorem MoveForm.Walk.of_ready (h : w.Walk s walk) (hw : w.Regular) (hk : k ≤ w.l1 + 1)
    (hready : ∀ j < k, w.ReadyAt s j) :
    ∃ m, w.Moved s k m ∧ ∀ r, walk (k + r) 0 s.mem = walk r k m := by
  have hlength := hw.length_lt
  induction k with
  | zero => exact ⟨s.mem, .refl .., fun r => by rw [Nat.zero_add]⟩
  | succ k ih =>
    obtain ⟨m, hm, hwalk⟩ := ih (by omega) fun j hj => hready j (by omega)
    refine ⟨_, hm.next hw (by omega), fun r => ?_⟩
    rw [Nat.add_right_comm, Nat.add_assoc, hwalk, h.step r k m hm (by omega) (hready k (by omega))]

theorem MoveForm.Walk.of_not_ready (h : w.Walk s walk) (hw : w.Regular)
    (hnot : ¬ ∀ k < w.l1 + 1, w.ReadyAt s k) : walk (w.l1 + 1) 0 s.mem = none := by
  obtain ⟨k, hk, hready, hfails⟩ := exists_first_failure (p := fun n => ∀ k < n, w.ReadyAt s k) nofun hnot
  have hstuck : ¬ w.ReadyAt s k := fun hlast => hfails fun j hj => by
    rcases Nat.lt_succ_iff_lt_or_eq.mp hj with hlt | rfl
    · exact hready j hlt
    · exact hlast
  obtain ⟨m, hm, hwalk⟩ := h.of_ready hw (by omega) hready
  obtain ⟨r, hr⟩ : ∃ r, w.l1 + 1 = k + (r + 1) := ⟨w.l1 - k, by omega⟩
  rw [hr, hwalk, h.stop r k m hm hstuck]

/-- Every byte that the move reads has a value. -/
theorem MoveForm.readyAt_iff : (∀ k < w.l1 + 1, w.ReadyAt s k) ↔ (w.readsFirst = true → s.byteAt w.right1 ≠ none) ∧
    ∀ k ≤ w.l1, ∀ j ∈ w.needs k, j ≤ w.l2 → s.givenLeftward w.right1 k (w.right2 - BitVec.ofNat 24 j) := by
  refine ⟨fun h => ⟨?_, fun k hk => ?_⟩, fun ⟨hfirst, hsource⟩ k hk => ⟨fun _ => hfirst, hsource k (by omega)⟩⟩
  · obtain ⟨hfirst, -⟩ := h 0 (by omega)
    exact hfirst rfl
  · obtain ⟨-, hsource⟩ := h k (by omega)
    exact hsource

end Sys2Proof.Machine
end

section
/-! PROOFS. MVO, PACK and UNPK as walks from the right: their first steps and their later ones (46_ss_decimal R400 to
R402; log 10). -/

namespace Sys2Proof.Machine

variable {s : State} {w : MoveForm} {m : Memory} {k r : Nat}

/-- A walk whose step 0 has a rule of its own. -/
def stepsFrom (first : Nat → Memory → Option Memory) (later : Nat → Nat → Memory → Option Memory) :
    Nat → Nat → Memory → Option Memory
  | 0, _, m => some m
  | r + 1, 0, m => first r m
  | r + 1, k + 1, m => later (r + 1) (k + 1) m

theorem stepsFrom_later {first : Nat → Memory → Option Memory} {later : Nat → Nat → Memory → Option Memory}
    (h : ∀ k m, later 0 k m = some m) (r k : Nat) (m : Memory) :
    stepsFrom first later r (k + 1) m = later r (k + 1) m := by
  cases r with
  | zero => exact (h ..).symm
  | succ r => rfl

theorem MoveForm.nextStorage_zero (w : MoveForm) (s : State) (m : Memory) :
    w.nextStorage s m 0 = m.write (addrPlus w.a1 w.l1) (w.nextByte s m 0) := by
  rw [MoveForm.nextStorage, ← addrPlus_sub _ w.l1.zero_le, Nat.sub_zero]

theorem MoveForm.nextStorage_eq (s : State) (m : Memory) (hk : k ≤ w.l1) :
    w.nextStorage s m k = m.write (addrPlus w.a1 (w.l1 - k)) (w.nextByte s m k) := by
  rw [MoveForm.nextStorage, addrPlus_sub _ hk]

theorem MoveForm.source_nextStorage (hw : w.Regular) (hk : k ≤ w.l1) (p : Nat) :
    w.source s (w.nextStorage s m k) k p = w.source s m k p :=
  MoveForm.source_write (hk.trans_lt hw.length_lt) le_rfl _

/-! ## MVO -/

/-- Step 0 of MVO and `r` steps more (R400). -/
def MoveForm.offsetFirst (w : MoveForm) (r : Nat) (m : Memory) : Option Memory :=
  match m.read (addrPlus w.a1 w.l1), sourceByte m w.a2 w.l2 0 with
  | some t, some s0 =>
    moveOffset w.a1 w.l1 w.a2 w.l2 r 1 s0 (m.write (addrPlus w.a1 w.l1) (loNibble s0 ++ loNibble t))
  | _, _ => none

/-- MVO's walk: the source byte that a step keeps from the one before is told from the bytes stored since. -/
def MoveForm.offsetWalk (w : MoveForm) (s : State) : Nat → Nat → Memory → Option Memory :=
  stepsFrom w.offsetFirst fun r k m => moveOffset w.a1 w.l1 w.a2 w.l2 r k (w.source s m (k - 1) (k - 1)) m

section Offset

variable (hw : w.Regular) (hneeds : w.needs = fun k => [k]) (hfirst : w.readsFirst = true)
  (hresult : w.result = fun old src k => (src k k).extractLsb' 0 4 ++
    (if k = 0 then old.extractLsb' 0 4 else (src (k - 1) (k - 1)).extractLsb' 4 4))
include hw hneeds hfirst hresult

theorem MoveForm.offsetWalk_isWalk (s : State) : w.Walk s (w.offsetWalk s) := by
  have hlater (r k : Nat) (m : Memory) : w.offsetWalk s r (k + 1) m =
      moveOffset w.a1 w.l1 w.a2 w.l2 r (k + 1) (w.source s m k k) m := stepsFrom_later (fun _ _ => rfl) r k m
  refine ⟨fun _ _ => rfl, fun r k m hm hk hready => ?_, fun r k m hm hnot => ?_⟩
  · obtain ⟨hold, hsource⟩ := hready
    have hbyte := hm.sourceByte_of_given (hsource k (by simp [hneeds]))
    rw [hlater, MoveForm.source_nextStorage hw hk]
    cases k with
    | zero =>
      have hread : m.read (addrPlus w.a1 w.l1) = some (s.byteVal w.right1) :=
        (hm.kept _ (Nat.zero_le _)).trans (State.read_of_ne_none (hold rfl hfirst))
      change w.offsetFirst r m = _
      rw [MoveForm.offsetFirst, hread, hbyte, MoveForm.nextStorage_zero, MoveForm.nextByte, hresult]
      rfl
    | succ k =>
      rw [hlater, moveOffset, hbyte, MoveForm.nextStorage_eq s m hk, MoveForm.nextByte, hresult]
      rfl
  · have hstuck : k = 0 ∧ s.byteAt w.right1 = none ∨ sourceByte m w.a2 w.l2 k = none := by
      by_contra hboth
      obtain ⟨hold, hsource⟩ := not_or.mp hboth
      refine hnot ⟨fun hk _ hnone => hold ⟨hk, hnone⟩, fun j hj hin => ?_⟩
      obtain rfl : j = k := by simpa [hneeds] using hj
      by_contra hgiven
      exact hsource (hm.sourceByte_of_not_given hin hgiven)
    cases k with
    | zero =>
      change w.offsetFirst r m = none
      rw [MoveForm.offsetFirst]
      split
      · next t s0 ht hs0 =>
        rcases hstuck with ⟨-, hnone⟩ | hnone
        · have hread : m.read (addrPlus w.a1 w.l1) = none := (hm.kept _ (Nat.zero_le _)).trans hnone
          rw [hread] at ht
          cases ht
        · rw [hnone] at hs0
          cases hs0
      · rfl
    | succ k =>
      rw [hlater, moveOffset, hstuck.resolve_left (by simp)]

end Offset

/-! ## PACK -/

/-- Step 0 of PACK and UNPK, then `r` steps by `later`. -/
def MoveForm.swapFirst (w : MoveForm) (later : Nat → Nat → Memory → Option Memory) (r : Nat) (m : Memory) :
    Option Memory :=
  (swapStep m w.a1 w.l1 w.a2 w.l2).bind (later r 1)

/-- The walk of PACK and of UNPK. -/
def MoveForm.swapWalk (w : MoveForm) (later : Nat → Nat → Memory → Option Memory) :
    Nat → Nat → Memory → Option Memory :=
  stepsFrom (w.swapFirst later) later

/-- The rule of step 0 that PACK and UNPK share: the rightmost source byte with its halves exchanged. -/
structure MoveForm.Swaps (w : MoveForm) : Prop extends MoveForm.Regular w where
  reads_none : w.readsFirst = false
  needs_zero : ∀ j, j ∈ w.needs 0 ↔ j = 0
  result_zero : ∀ old src, w.result old src 0 = swapHalves (src 0 0)

section Swap

variable {later : Nat → Nat → Memory → Option Memory}

/-- Walks that swap at step 0 differ in their later steps only. -/
theorem MoveForm.Swaps.isWalk (hw : w.Swaps) (hdone : ∀ k m, later 0 k m = some m)
    (hstep : ∀ r k m, w.Moved s (k + 1) m → k + 1 ≤ w.l1 → w.ReadyAt s (k + 1) →
      later (r + 1) (k + 1) m = later r (k + 2) (w.nextStorage s m (k + 1)))
    (hstop : ∀ r k m, w.Moved s (k + 1) m → ¬ w.ReadyAt s (k + 1) → later (r + 1) (k + 1) m = none) :
    w.Walk s (w.swapWalk later) := by
  have hlater (r k : Nat) (m : Memory) : w.swapWalk later r (k + 1) m = later r (k + 1) m := stepsFrom_later hdone r k m
  refine ⟨fun _ _ => rfl, fun r k m hm hk hready => ?_, fun r k m hm hnot => ?_⟩
  · cases k with
    | zero =>
      obtain ⟨-, hsource⟩ := hready
      have hbyte := hm.sourceByte_of_given (hsource 0 ((hw.needs_zero 0).mpr rfl))
      change w.swapFirst later r m = _
      rw [hlater, MoveForm.swapFirst, swapStep, hbyte, MoveForm.nextStorage_zero, MoveForm.nextByte, hw.result_zero]
      rfl
    | succ k => rw [hlater, hlater, hstep r k m hm hk hready]
  · cases k with
    | zero =>
      have hstuck : sourceByte m w.a2 w.l2 0 = none := by
        refine hm.sourceByte_of_not_given w.l2.zero_le fun hgiven => hnot ⟨fun _ hreads => ?_, fun j hj _ => ?_⟩
        · rw [hw.reads_none] at hreads
          cases hreads
        · rwa [(hw.needs_zero j).mp hj]
      change w.swapFirst later r m = none
      rw [MoveForm.swapFirst, swapStep, hstuck]
      rfl
    | succ k => rw [hlater, hstop r k m hm hnot]

/-- A later step that is not ready lacks a source byte. -/
theorem MoveForm.Moved.exists_sourceByte_none (h : w.Moved s (k + 1) m) (hnot : ¬ w.ReadyAt s (k + 1)) :
    ∃ j ∈ w.needs (k + 1), sourceByte m w.a2 w.l2 j = none := by
  by_contra hall
  push Not at hall
  refine hnot ⟨nofun, fun j hj hin => ?_⟩
  by_contra hgiven
  exact hall j hj (h.sourceByte_of_not_given hin hgiven)

end Swap

theorem MoveForm.packWalk_isWalk (hw : w.Swaps) (hneeds : ∀ k, w.needs (k + 1) = [2 * (k + 1), 2 * (k + 1) - 1])
    (hresult : ∀ old src k, w.result old src (k + 1) =
      loNibble (src (k + 1) (2 * (k + 1))) ++ loNibble (src (k + 1) (2 * (k + 1) - 1))) :
    w.Walk s (w.swapWalk (packBytes w.a1 w.l1 w.a2 w.l2)) := by
  refine hw.isWalk (fun _ _ => rfl) (fun r k m hm hk hready => ?_) fun r k m hm hnot => ?_
  · obtain ⟨-, hsource⟩ := hready
    rw [packBytes, hm.sourceByte_of_given (hsource _ (by simp [hneeds])),
      hm.sourceByte_of_given (hsource _ (by simp [hneeds])), MoveForm.nextStorage_eq s m hk, MoveForm.nextByte, hresult]
  · obtain ⟨j, hj, hnone⟩ := hm.exists_sourceByte_none hnot
    rw [packBytes]
    split
    · next hi lo hhi hlo =>
      rw [hneeds, List.mem_pair] at hj
      rcases hj with rfl | rfl
      · rw [hnone] at hhi
        cases hhi
      · rw [hnone] at hlo
        cases hlo
    · rfl

/-! ## UNPK -/

/-- The half-byte of its source byte that UNPK takes at step `k`, as a first bit counted from the right. -/
theorem unpackDigit_eq (m : Memory) (a2 : Addr) (l2 k : Nat) : unpackDigit m a2 l2 k =
    (sourceByte m a2 l2 ((k + 1) / 2)).map fun v => v.extractLsb' (if k % 2 = 1 then 0 else 4) 4 := by
  unfold unpackDigit
  split
  · rfl
  · next heven =>
    have hplace : (k + 1) / 2 = k / 2 := by omega
    rw [hplace]
    rfl

theorem MoveForm.unpackWalk_isWalk (zone : BitVec 4) (hw : w.Swaps) (hneeds : ∀ k, w.needs (k + 1) = [(k + 1 + 1) / 2])
    (hresult : ∀ old src k, w.result old src (k + 1) =
      zone ++ (src (k + 1) ((k + 1 + 1) / 2)).extractLsb' (if (k + 1) % 2 = 1 then 0 else 4) 4) :
    w.Walk s (w.swapWalk (unpackBytes zone w.a1 w.l1 w.a2 w.l2)) := by
  refine hw.isWalk (fun _ _ => rfl) (fun r k m hm hk hready => ?_) fun r k m hm hnot => ?_
  · obtain ⟨-, hsource⟩ := hready
    rw [unpackBytes, unpackDigit_eq, hm.sourceByte_of_given (hsource _ (by simp [hneeds])),
      MoveForm.nextStorage_eq s m hk, MoveForm.nextByte, hresult]
    rfl
  · obtain ⟨j, hj, hnone⟩ := hm.exists_sourceByte_none hnot
    rw [hneeds, List.mem_singleton] at hj
    rw [unpackBytes, unpackDigit_eq, ← hj, hnone]
    rfl

end Sys2Proof.Machine
end

section
/-! PROOFS. The decimal moves behind their access checks (46_ss_decimal R393, R396; log 11). -/

namespace Sys2Proof.Machine

variable {s : State} {i : Instr} {w : MoveForm} {a1 a2 : Addr} {l1 l2 used : Nat} {o : Option Memory} {m : Memory}

/-- The source bytes that are accessed are those needed, as far as the second operand goes (R393). -/
theorem State.field_neededField_iff : s.field (neededField a2 l2 used).1 (neededField a2 l2 used).2 ↔
    ∀ j ≤ used, j ≤ l2 → (a2 + BitVec.ofNat 24 l2 - BitVec.ofNat 24 j).toNat < s.cfg.memSize := by
  have hplace (k : Nat) (hk : k ≤ min used l2) : addrPlus (addrPlus a2 (l2 - min used l2)) k =
      a2 + BitVec.ofNat 24 l2 - BitVec.ofNat 24 (min used l2 - k) := by
    have hcount : l2 - min used l2 + k = l2 - (min used l2 - k) := by omega
    rw [addrPlus_addrPlus, hcount, addrPlus_sub _ (by omega)]
  refine ⟨fun h j hj hin => ?_, fun h k hk => ?_⟩
  · have hbyte := h (min used l2 - j) (Nat.lt_succ_of_le (Nat.sub_le ..))
    have hcount : min used l2 - (min used l2 - j) = j := by omega
    rwa [← addrPlus, neededField, hplace _ (by omega), hcount] at hbyte
  · rw [← addrPlus, neededField, hplace k (Nat.le_of_lt_succ hk)]
    exact h _ (by omega) (by omega)

/-! ## The ends of a move -/

theorem State.moveDecimal_of_fault {c : AddressCause}
    (h : s.fieldFault a1 (l1 + 1) (neededField a2 l2 used).1 (neededField a2 l2 used).2 true = some c) :
    s.moveDecimal a1 l1 a2 l2 used o = accessTerminated (s.freeBytes a1 (l1 + 1)) c := by
  rw [State.moveDecimal, h]
  rfl

section Passed

variable (ho : s.openField a1 (l1 + 1))
  (h2 : s.field (neededField a2 l2 used).1 (neededField a2 l2 used).2)
include ho h2

theorem State.moveDecimal_of_some : s.moveDecimal a1 l1 a2 l2 used (some m) = (s.setMem m).complete := by
  obtain ⟨h1, -⟩ := id ho
  rw [State.moveDecimal, State.fieldFault_of_open h1 h2 fun _ => ho]
  rfl

theorem State.moveDecimal_of_none : s.moveDecimal a1 l1 a2 l2 used none = .refused .noValue := by
  obtain ⟨h1, -⟩ := id ho
  rw [State.moveDecimal, State.fieldFault_of_open h1 h2 fun _ => ho]
  rfl

end Passed

/-! ## The three forms -/

/-- The walk of a decimal move, with the leftmost source byte that it needs. -/
theorem exists_walk_of_moveForm (hw : s.moveForm i = some w) : w.Regular ∧ ∃ used walk, w.Walk s walk ∧
    (∀ j, j ≤ used ↔ ∃ k ≤ w.l1, j ∈ w.needs k) ∧
    exec i s = s.moveDecimal w.a1 w.l1 w.a2 w.l2 used (walk (w.l1 + 1) 0 s.mem) := by
  cases i with
  | mvo l1 l2 b1 d1 b2 d2 =>
    have hreg : w.Regular := by
      cases hw
      refine ⟨l1.isLt.trans (by decide), fun old src src' k h => ?_⟩
      simp only [h k le_rfl, h (k - 1) (Nat.sub_le k 1)]
    refine ⟨hreg, w.l1, w.offsetWalk s, ?_, ?_, ?_⟩
    · cases hw
      exact MoveForm.offsetWalk_isWalk hreg rfl rfl rfl s
    · cases hw
      simp
    · cases hw
      rfl
  | pack l1 l2 b1 d1 b2 d2 =>
    have hswap : w.Swaps := by
      cases hw
      refine ⟨⟨l1.isLt.trans (by decide), fun old src src' k h => ?_⟩, rfl, by simp, fun _ _ => rfl⟩
      simp only [h k le_rfl, h 0 k.zero_le]
    refine ⟨hswap.toRegular, 2 * w.l1, w.swapWalk (packBytes w.a1 w.l1 w.a2 w.l2), ?_, fun j => ?_, ?_⟩
    · cases hw
      exact MoveForm.packWalk_isWalk hswap (fun _ => rfl) fun _ _ _ => rfl
    · cases hw
      simp only [List.mem_pair]
      exact ⟨fun hj => ⟨(j + 1) / 2, by omega, by omega⟩, fun ⟨k, hk, hj⟩ => by omega⟩
    · cases hw
      rfl
  | unpk l1 l2 b1 d1 b2 d2 =>
    have hswap : w.Swaps := by
      cases hw
      refine ⟨⟨l1.isLt.trans (by decide), fun old src src' k h => ?_⟩, rfl, by simp, fun _ _ => rfl⟩
      simp only [h k le_rfl, h 0 k.zero_le]
    refine ⟨hswap.toRegular, (w.l1 + 1) / 2, w.swapWalk (unpackBytes (zoneCode s.cfg.asciiMode) w.a1 w.l1 w.a2 w.l2),
      ?_, fun j => ?_, ?_⟩
    · cases hw
      exact MoveForm.unpackWalk_isWalk _ hswap (fun _ => rfl) fun _ _ _ => rfl
    · cases hw
      simp only [List.mem_singleton]
      exact ⟨fun hj => ⟨2 * j - 1, by omega, by omega⟩, fun ⟨k, hk, hj⟩ => by omega⟩
    · cases hw
      rfl
  | _ => cases hw

end Sys2Proof.Machine
end

section
/-! PROOFS. The obligations of 46_ss_decimal. -/

open Sys2Proof Sys2Proof.Machine

/-- Settles O49: the half-bytes of a field are the numeral of its value to the base 16, which the parse reads to the
base 10. -/
theorem packedFieldValue : Obligations.PackedFieldValue := by
  unfold Obligations.PackedFieldValue
  refine ⟨fun n h ds _ hlen hds hh => decParse_numeral hlen hds hh,
    fun s a n hn hg => ⟨State.decAt_of_invalidPacked hn hg, fun hgood => ?_⟩⟩
  rw [← s.numeral_digitHalves a n 10]
  exact State.decAt_of_valid hn hg hgood

/-- Settles O50: the three moves are one walk from the right over their form; a byte without value stops it, the access
checks come before it. -/
theorem decimalMoves : Obligations.DecimalMoves := by
  unfold Obligations.DecimalMoves
  rintro s i w e1 e2 inside ready hw rfl rfl hinside hready
  obtain ⟨hreg, used, walk, hwalk, hneeds, hexec⟩ := exists_walk_of_moveForm hw
  have hfields : inside ↔ s.field w.a1 (w.l1 + 1) ∧
      s.field (neededField w.a2 w.l2 used).1 (neededField w.a2 w.l2 used).2 := by
    rw [hinside, State.field_neededField_iff]
    refine and_congr_right fun _ => ⟨fun h j hj => ?_, fun h k hk j hj => h j ((hneeds j).mpr ⟨k, hk, hj⟩)⟩
    obtain ⟨k, hk, hneed⟩ := (hneeds j).mp hj
    exact h k hk j hneed
  rw [← MoveForm.readyAt_iff] at hready
  rw [hexec]
  refine ⟨fun hin ho hvalues => ?moves, fun hin ho hnone => ?noValue, fun hifr hout => ?outside,
    fun hifr hin ho => ?locked⟩
  case moves =>
    obtain ⟨-, h2⟩ := hfields.mp hin
    obtain ⟨m, hm, hend⟩ := hwalk.of_ready hreg le_rfl (hready.mp hvalues)
    rw [hend 0, hwalk.done, State.moveDecimal_of_some ho h2]
    exact ⟨_, rfl, rfl, fun b hb => hm.kept b (lt_toNat_right_sub hb), fun k hk => hm.stored k (Nat.lt_succ_of_le hk)⟩
  case noValue =>
    obtain ⟨-, h2⟩ := hfields.mp hin
    rw [hwalk.of_not_ready hreg (mt hready.mpr hnone), State.moveDecimal_of_none ho h2]
  case outside =>
    rw [State.moveDecimal_of_fault (State.fieldFault_of_outside (not_and_or.mp (mt hfields.mpr hout)))]
    exact accessTerminated_freeBytes hifr ..
  case locked =>
    obtain ⟨h1, h2⟩ := hfields.mp hin
    rw [State.moveDecimal_of_fault (State.fieldFault_of_protected h1 h2 ho)]
    exact accessTerminated_freeBytes hifr ..

/-- Settles O51: the four instructions are one form, whose checks come in the order of log 11; what is stored is a
generated field of the low digits of the exact result. -/
theorem decimalArithmetic : Obligations.DecimalArithmetic := by
  unfold Obligations.DecimalArithmetic
  intro s i w hw
  obtain ⟨hreg, hexec⟩ := exec_of_decimalForm hw
  rw [hexec]
  refine ⟨fun p q v hf1 hf2 ho hp hq hv => ?result, fun hifr hf1 hf2 ho hg1 hg2 hbad => ?invalid,
    fun hifr hout => ?outside, fun hifr hf1 hf2 hs ho => ?locked, fun hf1 hf2 ho hnone => ?noValue⟩
  case result =>
    rw [DecimalForm.run_of_ok hf1 hf2 ho hreg hp hq, ← hv]
    refine ⟨fun hs => DecimalForm.finish_of_compares hs v, fun hs hplace => ?stored, fun hr hplace hfits => ?freed⟩
    case stored =>
      obtain ⟨t, ht, hmem, hends⟩ := s.finishDecimal_next w.a1 w.n1 v
      have hn : w.n1 ≤ 2 ^ 24 := hreg.first_le.trans (by decide)
      have hpacked := hmem ▸ Memory.holdsPacked_decStored hn
      rw [DecimalForm.finish_of_stores hs (DecimalForm.openOverlap_eq_false hplace)]
      refine ⟨t, ht, State.decAt_of_holdsPacked hpacked hreg.first_pos (Nat.mod_lt _ (by positivity)),
        State.sign_of_holdsPacked hpacked hreg.first_pos, fun b hb => ?_, hends⟩
      rw [State.byteAt, hmem]
      exact Memory.read_storeValue_outside _ _ hn hb
    case freed =>
      have hs : w.stores = true := by
        by_contra hcompares
        rw [hreg.reads_of_compares (Bool.eq_false_of_not_eq_true hcompares)] at hr
        cases hr
      obtain ⟨hrest, houtside⟩ := w.fieldFreed s
      rw [if_pos hs] at houtside
      rw [DecimalForm.finish_of_openOverlap hs (DecimalForm.openOverlap_eq_true hr hplace) hfits]
      refine ⟨_, rfl, ?_, houtside⟩
      rw [State.advance, hrest]
      rfl
  case invalid =>
    by_cases hfirst : w.readsFirst = true ∧ s.invalidPacked w.a1 w.n1
    · obtain ⟨hr, hbad1⟩ := hfirst
      rw [DecimalForm.run_of_first_stop hf1 hf2 ho hr (State.decAt_of_invalidPacked hreg.first_pos (hg1 hr) hbad1)]
      exact w.exists_terminated hifr ..
    · have hp (hr : w.readsFirst = true) : ∃ p, s.decAt w.a1 w.n1 = .ok p :=
        ⟨_, State.decAt_of_valid hreg.first_pos (hg1 hr) fun hbad1 => hfirst ⟨hr, hbad1⟩⟩
      rw [DecimalForm.run_of_second_stop hf1 hf2 ho hp
        (State.decAt_of_invalidPacked hreg.second_pos hg2 (hbad.resolve_left hfirst))]
      exact w.exists_terminated hifr ..
  case outside =>
    rw [DecimalForm.run_of_fault (State.fieldFault_of_outside (not_and_or.mp hout))]
    exact w.exists_terminated hifr ..
  case locked =>
    have hend := w.exists_terminated hifr .addressError (.address .protect)
    rw [if_pos hs] at hend
    rw [DecimalForm.run_of_fault (hs ▸ State.fieldFault_of_protected hf1 hf2 ho)]
    exact hend
  case noValue =>
    rcases hnone with ⟨hr, hg1⟩ | ⟨hfirst, hg2⟩
    · rw [DecimalForm.run_of_first_stop hf1 hf2 ho hr (State.decAt_of_not_given hg1)]
      rfl
    · have hp (hr : w.readsFirst = true) : ∃ p, s.decAt w.a1 w.n1 = .ok p := by
        obtain ⟨hg1, hgood⟩ := hfirst hr
        exact ⟨_, State.decAt_of_valid hreg.first_pos hg1 hgood⟩
      rw [DecimalForm.run_of_second_stop hf1 hf2 ho hp (State.decAt_of_not_given hg2)]
      rfl

/-- Settles O52: behind the length rule both instructions check and read in one order; the results are generated fields,
which fit because a packed number is smaller than its field. -/
theorem decimalProducts : Obligations.DecimalProducts := by
  unfold Obligations.DecimalProducts
  rintro s i l1 l2 b1 b2 d1 d2 a1 a2 n1 n2 hi rfl rfl rfl rfl h7 hl
  obtain ⟨f, hexec⟩ := exists_exec_eq_withFactors s hi
  have hn1 := l1.isLt
  refine ⟨fun p q ho hf2 hp hq => ⟨fun hzero => ?product, fun hzero hifr => ?notZero, fun hq0 hfits => ?quotient,
    fun hbad hifr => ?noQuotient⟩, fun hifr ho hf2 hg1 hg2 hbad => ?invalid, fun hifr hout => ?outside,
    fun hifr hf1 hf2 ho => ?locked, fun ho hf2 hnone => ?noValue⟩
  case product =>
    rw [exec_mp_of_zeros h7 hl ho hf2 hp hq hzero]
    have hpacked {m : Nat} {neg : Bool} : (s.mem.storeValue (s.eab d1 b1) (l1.toNat + 1) (decFormat s.cfg.asciiMode
        (l1.toNat + 1) m neg)).HoldsPacked _ _ _ m neg := Memory.holdsPacked_storeValue (by omega)
    exact ⟨_, rfl, rfl, State.decAt_of_holdsPacked hpacked (by omega)
      (State.product_lt hp hq (by omega) (by omega) hzero), State.sign_of_holdsPacked hpacked (by omega),
      fun b hb => Memory.read_storeValue_outside _ _ (by omega) hb⟩
  case notZero =>
    rw [exec_mp_of_not_zeros h7 hl ho hf2 hp hq hzero]
    exact terminateBy_freeBytes hifr ..
  case quotient =>
    have hremainder : p.mag % q.mag < 10 ^ (2 * (l2.toNat + 1) - 1) :=
      (Nat.mod_lt _ (Nat.pos_of_ne_zero hq0)).trans (State.mag_lt_of_decAt hq (by omega))
    exact ⟨_, exec_dp_of_quotient h7 hl ho hf2 hp hq hq0 hfits, rfl,
      State.read_sideBySide (by omega) (by omega) (by omega) (by omega) hfits hremainder rfl⟩
  case noQuotient =>
    rw [exec_dp_of_no_quotient h7 hl ho hf2 hp hq hbad]
    exact State.suppress_eq_suppressed hifr ..
  case invalid =>
    rw [hexec]
    by_cases hbad1 : s.invalidPacked (s.eab d1 b1) (l1.toNat + 1)
    · rw [State.withFactors_of_first_stop h7 hl ho hf2 (State.decAt_of_invalidPacked (by omega) hg1 hbad1)]
      exact terminateBy_freeBytes hifr ..
    · rw [State.withFactors_of_second_stop h7 hl ho hf2 (State.decAt_of_valid (by omega) hg1 hbad1)
        (State.decAt_of_invalidPacked (by omega) hg2 (hbad.resolve_left hbad1))]
      exact terminateBy_freeBytes hifr ..
  case outside =>
    rw [hexec, State.withFactors_of_fault h7 hl (State.fieldFault_of_outside (not_and_or.mp hout))]
    exact terminateBy_freeBytes hifr ..
  case locked =>
    rw [hexec, State.withFactors_of_fault h7 hl (State.fieldFault_of_protected hf1 hf2 ho)]
    exact terminateBy_freeBytes hifr ..
  case noValue =>
    rw [hexec]
    by_cases hg1 : s.given (s.eab d1 b1) (l1.toNat + 1)
    · obtain ⟨hgood, hg2⟩ := hnone.resolve_left (not_not.mpr hg1)
      rw [State.withFactors_of_second_stop h7 hl ho hf2 (State.decAt_of_valid (by omega) hg1 hgood)
        (State.decAt_of_not_given hg2)]
      rfl
    · rw [State.withFactors_of_first_stop h7 hl ho hf2 (State.decAt_of_not_given hg1)]
      rfl
end

section
/-! PROOFS. The conditions by their numbers (60_exceptions R421 to R424), and which pending condition is taken (R426,
R427). -/

namespace Sys2Proof.Machine

theorem Condition.mem_all (c : Condition) : c ∈ Condition.all := by
  cases c <;> decide

theorem Condition.nodup_all : Condition.all.Nodup := by decide

theorem Condition.priority_le (c : Condition) : c.priority ≤ 32 := List.idxOf_lt_length_of_mem c.mem_all

theorem Condition.weight_div_four (c : Condition) : c.weight / 4 = c.priority - 1 :=
  Nat.mul_div_cancel_left _ (by decide)

theorem Condition.priority_le_two_iff (c : Condition) : c.priority ≤ 2 ↔ c = .powerFailure ∨ c = .machineCheck := by
  cases c <;> decide

/-- The condition at position `k` of the list by priority has priority number `k + 1`. -/
theorem Condition.priority_getElem {k : Nat} (h : k < Condition.all.length) : Condition.all[k].priority = k + 1 := by
  rw [Condition.priority, Condition.nodup_all.idxOf_getElem]

theorem State.flagged_getElem (s : State) {k : Nat} (h : k < Condition.all.length) :
    s.flagged Condition.all[k] = s.ifr.getLsbD k := by
  rw [State.flagged, Condition.priority_getElem h, Nat.add_sub_cancel]

theorem State.exists_flag_of_ifr_ne_zero {s : State} (h : s.ifr ≠ 0) : ∃ k < 32, s.ifr.getLsbD k = true := by
  by_contra hnone
  push Not at hnone
  exact h (BitVec.eq_of_getLsbD_eq fun k hk => by simpa using hnone k hk)

/-- The first pending condition is the one whose flag is the lowest bit set. -/
theorem State.firstPending_eq_lowest {s : State} (h : s.ifr ≠ 0) :
    ∃ c, s.firstPending = some c ∧ s.ifr.getLsbD (c.priority - 1) = true ∧
      ∀ k < c.priority - 1, s.ifr.getLsbD k = false := by
  obtain ⟨k, hk, hflag⟩ := State.exists_flag_of_ifr_ne_zero h
  have hsome : s.firstPending.isSome := by
    rw [State.firstPending, List.find?_isSome]
    exact ⟨_, List.getElem_mem hk, by rw [s.flagged_getElem hk, hflag]⟩
  obtain ⟨c, hc⟩ := Option.isSome_iff_exists.mp hsome
  obtain ⟨hflagged, i, hi, rfl, hbefore⟩ := List.find?_eq_some_iff_getElem.mp hc
  refine ⟨_, hc, ?_⟩
  rw [Condition.priority_getElem hi, Nat.add_sub_cancel, ← s.flagged_getElem hi]
  refine ⟨hflagged, fun j hj => ?_⟩
  rw [← s.flagged_getElem (hj.trans hi)]
  simpa using hbefore j hj

theorem State.takeInterrupt_of_firstPending {s : State} {c : Condition} (h : s.firstPending = some c) :
    s.takeInterrupt none = { s with run := .ended c .none } := by
  simp only [State.takeInterrupt, h]

end Sys2Proof.Machine
end

section
/-! PROOFS. An unassigned operation code, fetched or as the subject of EX, and a privileged instruction without
privilege (30_encoding R93, 60_exceptions R431, R434). -/

namespace Sys2Proof.Machine

variable {s : State} {a : Addr} {bs : List Byte} {op : Byte}

/-! ## The operation code alone decides whether an instruction is assigned -/

theorem decodeTwo_isSome (n : Nat) (b b' : Byte) : (decodeTwo n b).isSome = (decodeTwo n b').isSome := by
  unfold decodeTwo
  split <;> rfl

theorem decodeFour_isSome (n : Nat) (b b' c d : Byte) :
    (decodeFour n b c d).isSome = (decodeFour n b' c d).isSome := by
  unfold decodeFour
  split <;> rfl

theorem decodeSix_isSome (n : Nat) (b b' c d e f : Byte) :
    (decodeSix n b c d e f).isSome = (decodeSix n b' c d e f).isSome := by
  unfold decodeSix
  split <;> rfl

theorem namedOr_eq_unassigned_iff {op' : Byte} {o : Option Instr} :
    namedOr op o = .unassigned op' ↔ o = none ∧ op = op' := by
  cases o <;> simp [namedOr]

/-- The second byte of an instruction, which EX modifies, has no part in whether its code is assigned (R93). -/
theorem decode_unassigned_second_byte {op' b : Byte} {rest : List Byte} (h : decode (op :: b :: rest) = .unassigned op')
    (b' : Byte) : decode (op :: b' :: rest) = .unassigned op' := by
  have hnamed {o o' : Option Instr} (hsome : o'.isSome = o.isSome) (ho : namedOr op o = .unassigned op') :
      namedOr op o' = .unassigned op' := by
    obtain ⟨rfl, hop⟩ := namedOr_eq_unassigned_iff.mp ho
    exact namedOr_eq_unassigned_iff.mpr ⟨Option.isNone_iff_eq_none.mp (by simpa using hsome), hop⟩
  unfold decode at h ⊢
  dsimp only at h ⊢
  split at h
  next b1 tail hlen heq =>
    cases heq
    rw [hlen]
    exact hnamed (decodeTwo_isSome _ _ _) h
  next hlen heq =>
    cases heq
    rw [hlen]
    exact hnamed (decodeFour_isSome _ _ _ _ _) h
  next hlen heq =>
    cases heq
    rw [hlen]
    exact hnamed (decodeSix_isSome _ _ _ _ _ _ _) h
  next => cases h

/-- EX decodes its subject with the operation code it has fetched. -/
theorem decode_modifySubject_unassigned (s : State) (r1 : RegNum) (h : decode bs = .unassigned op) :
    decode (s.modifySubject r1 bs) = .unassigned op := by
  match bs, h with
  | [], h => exact h
  | [_], h => exact h
  | _ :: _ :: _, h => exact decode_unassigned_second_byte h _

/-! ## The trap -/

theorem State.opCodeTrap_eq_suppressed (h : s.ifr = 0) :
    s.opCodeTrap = .next (s.suppressed 22 .opCodeTrap .none) := State.suppress_eq_suppressed h .opCodeTrap .none

theorem step_of_unassigned (hrun : s.run = .running) (hfetch : s.fetchBytes s.pc = .ok bs)
    (hdecode : decode bs = .unassigned op) : step s = (s.beginInstr bs.length).opCodeTrap := by
  simp only [step, hrun, hfetch, hdecode]

theorem runSubject_of_unassigned {r1 : RegNum} (h : decode (s.modifySubject r1 bs) = .unassigned op) :
    s.runSubject r1 bs = s.opCodeTrap := by
  rw [State.runSubject, h]

/-- `ilc` holds the length of every instruction, 1 to 3 half words (R27, R80). -/
theorem two_mul_ilc_of_instrLength (op : Byte) : 2 * (BitVec.ofNat 2 (instrLength op / 2)).toNat = instrLength op := by
  unfold instrLength
  split
  · rfl
  · split <;> rfl

/-- The instruction after a fetched one begins where its bytes end. -/
theorem State.next_beginInstr (hfetch : s.fetchBytes a = .ok bs) :
    (s.beginInstr bs.length).next = s.pc + BitVec.ofNat 24 bs.length := by
  obtain ⟨-, op, -, -, hlen, -⟩ := State.fetchBytes_ok hfetch
  rw [State.next, State.beginInstr_pc, State.beginInstr_ilc, hlen, two_mul_ilc_of_instrLength]

/-! ## The privileged check -/

theorem State.privileged_of_unauthorized (h : s.cfg.privileged = false) (k : Result) :
    s.privileged k = s.suppress .privilegedOperation .none := if_neg (by simp [h])

/-- Each of the 13 privileged instructions begins with the check, whatever its operands (R431). -/
theorem exec_of_unauthorized (i : Instr) (hi : i.privileged = true) (h : s.cfg.privileged = false) :
    exec i s = s.suppress .privilegedOperation .none := by
  unfold exec
  cases i with
  | ssk | isk | idl | pc | dig | wrd | rdd | sdv | tdv | hdv | ckc | ssp | lsp =>
    exact State.privileged_of_unauthorized h _
  | _ => cases hi

end Sys2Proof.Machine
end

section
/-! PROOFS. What an instruction does with the flags (60_exceptions R420, R425, R443, R444): it leaves them, or ends by
raising one condition of rows 21 to 31 with the info that belongs to it. -/

namespace Sys2Proof.Machine

/-! ## The conditions an instruction raises -/

/-- A condition of rows 22 to 31 that passes no info, which is all of them but Address Error. -/
abbrev Condition.Plain (c : Condition) : Prop := 22 ≤ c.priority ∧ c.priority ≤ 31 ∧ c ≠ .addressError

/-- The pairs R425 remembers: a condition and the info the instruction passes with it. -/
inductive Raisable : Condition → Info → Prop
  | svc (k : Byte) : Raisable .supervisorCall (.svc k)
  | address (cause : AddressCause) : Raisable .addressError (.address cause)
  | plain {c : Condition} (h : c.Plain) : Raisable c .none

variable {c : Condition} {info : Info}

theorem Raisable.priority (h : Raisable c info) : 21 ≤ c.priority ∧ c.priority ≤ 31 := by
  cases h with
  | svc | address => decide
  | plain h =>
    obtain ⟨hlow, hhigh, -⟩ := h
    omega

theorem Raisable.svc_iff (h : Raisable c info) : (∃ k, info = .svc k) ↔ c = .supervisorCall := by
  cases h with
  | svc | address => simp
  | plain h =>
    obtain ⟨hlow, -, -⟩ := h
    have hc : c ≠ .supervisorCall := by
      rintro rfl
      exact absurd hlow (by decide)
    simp [hc]

theorem Raisable.address_iff (h : Raisable c info) : (∃ k, info = .address k) ↔ c = .addressError := by
  cases h with
  | svc | address => simp
  | plain h =>
    obtain ⟨-, -, hc⟩ := h
    simp [hc]

/-- The mask 800FFFFF holds the flags of rows 1 to 20 and of Test Mode, and no other (R443, R444). -/
theorem Condition.flag_and_outside : ∀ c : Condition, 21 ≤ c.priority → c.priority ≤ 31 →
    c.flag &&& 0x800FFFFF#32 = 0#32 := by
  intro c
  cases c <;> decide

theorem Raisable.flag_and_outside (h : Raisable c info) : c.flag &&& 0x800FFFFF#32 = 0#32 := by
  obtain ⟨hlow, hhigh⟩ := h.priority
  exact c.flag_and_outside hlow hhigh

/-! ## Stops met at fetch or while operands are walked -/

/-- A stop that raises raises what an instruction may. -/
def Stop.Lawful : Stop → Prop
  | .raised c info => Raisable c info
  | .noValue => True

theorem Stop.lawful_address (cause : AddressCause) : (Stop.address cause).Lawful := .address cause

theorem Stop.lawful_data : Stop.data.Lawful := .plain (by decide)

theorem Stop.lawful_noValue : Stop.noValue.Lawful := trivial

theorem Stop.Lawful.afterProtection {stop : Stop} (h : stop.Lawful) (p : Bool) : (stop.afterProtection p).Lawful := by
  rcases stop.afterProtection_cases p with hs | ⟨-, hs⟩ <;> rw [hs]
  · exact h
  · exact Stop.lawful_address _

/-- Every stop the answer can be is lawful. -/
def StopsLawfully {α : Type} (r : Except Stop α) : Prop := ∀ stop, r = .error stop → stop.Lawful

section Stops

variable {α : Type} {s : State} {m : Memory} {a a2 : Addr} {n size : Nat}

theorem StopsLawfully.ok (v : α) : StopsLawfully (.ok v) := nofun

theorem StopsLawfully.error {stop : Stop} (h : stop.Lawful) : StopsLawfully (.error stop : Except Stop α) := by
  rintro _ ⟨⟩
  exact h

theorem givenOr_stopsLawfully (v : Option α) : StopsLawfully (givenOr v) := by
  cases v with
  | none => exact .error Stop.lawful_noValue
  | some v => exact .ok v

theorem fetchBytes_stopsLawfully (s : State) (a : Addr) : StopsLawfully (s.fetchBytes a) := by
  unfold State.fetchBytes
  split
  · exact .error (Stop.lawful_address _)
  · split
    · exact .error (Stop.lawful_address _)
    · split
      · exact .error Stop.lawful_noValue
      · split
        · exact .error (Stop.lawful_address _)
        · split
          · exact .error Stop.lawful_noValue
          · exact .ok _

theorem decAt_stopsLawfully (s : State) (a : Addr) (n : Nat) : StopsLawfully (s.decAt a n) := by
  unfold State.decAt
  split
  · exact .error Stop.lawful_noValue
  · split
    · exact .error Stop.lawful_data
    · exact .ok _

theorem combineFields_stopsLawfully (f : Option Byte → Byte → Option Byte) :
    StopsLawfully (s.combineFields n a a2 f) := by
  unfold State.combineFields
  split
  · exact .error (Stop.lawful_address _)
  · exact givenOr_stopsLawfully _

theorem tableByte_stopsLawfully : StopsLawfully (tableByte size m a a2) := by
  unfold tableByte
  split
  · exact .error Stop.lawful_noValue
  · split
    · exact .error (Stop.lawful_address _)
    · exact givenOr_stopsLawfully _

theorem translateBytes_stopsLawfully : StopsLawfully (translateBytes size a2 n m a) := by
  induction n generalizing m a with
  | zero => exact .ok _
  | succ n ih =>
    unfold translateBytes
    split
    · next h => exact .error (tableByte_stopsLawfully _ h)
    · exact ih

theorem translate_stopsLawfully : StopsLawfully (s.translate n a a2) := by
  unfold State.translate
  split
  · exact .error (Stop.lawful_address _)
  · split
    · next h => exact .error ((translateBytes_stopsLawfully _ h).afterProtection _)
    · split
      · exact .ok _
      · exact .error (Stop.lawful_address _)

theorem lawful_of_scanFunction_stopped {stop : Stop} (h : s.scanFunction a2 n a = .stopped stop) : stop.Lawful := by
  induction n generalizing a with
  | zero => cases h
  | succ n ih =>
    unfold State.scanFunction at h
    split at h
    · cases h
      exact Stop.lawful_address _
    · split at h
      · next ht =>
        cases h
        exact tableByte_stopsLawfully _ ht
      · split at h
        · exact ih h
        · cases h

variable {e : Edit}

theorem Edit.sourceByte_stopsLawfully : StopsLawfully (e.sourceByte s) := by
  unfold Edit.sourceByte
  split
  · exact .error (Stop.lawful_address _)
  · split
    · exact .error Stop.lawful_noValue
    · split
      · exact .error Stop.lawful_data
      · exact .ok _

theorem Edit.step_stopsLawfully : StopsLawfully (e.step s a) := by
  unfold Edit.step
  split
  · exact .error Stop.lawful_noValue
  · split
    · split
      · next h => exact .error (Edit.sourceByte_stopsLawfully _ h)
      · exact .ok _
    · split
      · exact .ok _
      · split <;> exact .ok _

theorem Edit.run_stopsLawfully : StopsLawfully (Edit.run s n a e) := by
  induction n generalizing a e with
  | zero =>
    unfold Edit.run
    split
    · exact .error (Stop.lawful_address _)
    · exact .ok _
  | succ n ih =>
    unfold Edit.run
    split
    · next h => exact .error ((Edit.step_stopsLawfully _ h).afterProtection _)
    · exact ih

theorem edit_stopsLawfully : StopsLawfully (s.edit n a a2) := by
  unfold State.edit
  split
  · exact .error (Stop.lawful_address _)
  · split
    · exact .error (Stop.lawful_noValue.afterProtection _)
    · exact Edit.run_stopsLawfully

end Stops

/-! ## Conditions recorded with a result -/

/-- The condition recorded with a result, if any, is a plain one. -/
def PlainOnly (o : Option Condition) : Prop := ∀ c ∈ o, c.Plain

theorem PlainOnly.none : PlainOnly none := nofun

theorem PlainOnly.some (h : c.Plain) : PlainOnly (some c) := by
  rintro _ ⟨⟩
  exact h

theorem masked_plainOnly (s : State) (k : Nat) (happened : Bool) (h : c.Plain) :
    PlainOnly (s.masked k happened c) := by
  unfold State.masked
  split
  · exact .some h
  · exact .none

theorem fUnderflow_plainOnly (mask : Bool) (any zero : FCode) : PlainOnly (fUnderflow mask any zero).raised := by
  cases mask with
  | false => exact .none
  | true => exact .some (by decide)

theorem fOverflow_plainOnly (code : FCode) : PlainOnly (fOverflow code).raised := .some (by decide)

theorem fAddPack_plainOnly (n g : Nat) (sign : Bool) (char : Int) (m : Nat) :
    PlainOnly (fAddPack n g sign char m).raised := by
  unfold fAddPack
  split <;> exact .none

theorem fAddFinish_plainOnly (n g : Nat) (normalize pm2 pm3 sign : Bool) (char : Int) (m : Nat) :
    PlainOnly (fAddFinish n g normalize pm2 pm3 sign char m).raised := by
  unfold fAddFinish
  split
  · exact fOverflow_plainOnly _
  · split
    · split
      · exact .some (by decide)
      · exact .none
    · split
      · dsimp only
        split
        · exact fUnderflow_plainOnly _ _ _
        · exact fAddPack_plainOnly _ _ _ _ _
      · exact fAddPack_plainOnly _ _ _ _ _

theorem fAdd_plainOnly (n g : Nat) (normalize negate pm2 pm3 : Bool) (a b : Nat) :
    PlainOnly (fAdd n g normalize negate pm2 pm3 a b).raised := by
  unfold fAdd
  dsimp only
  split <;> exact fAddFinish_plainOnly _ _ _ _ _ _ _ _

theorem fRange_plainOnly (n : Nat) (pm2 sign : Bool) (char : Int) (f : Nat) :
    PlainOnly (fRange n pm2 sign char f).raised := by
  unfold fRange
  split
  · exact fOverflow_plainOnly _
  · split
    · exact fUnderflow_plainOnly _ _ _
    · exact .none

theorem fMulLong_plainOnly (g : Nat) (pm2 : Bool) (a b : Nat) : PlainOnly (fMulLong g pm2 a b).raised := by
  unfold fMulLong
  dsimp only
  split
  · exact .none
  · split <;> exact fRange_plainOnly _ _ _ _ _

theorem fMulShort_plainOnly (pm2 : Bool) (a b : Nat) : PlainOnly (fMulShort pm2 a b).raised := by
  unfold fMulShort
  dsimp only
  split
  · exact .none
  · split <;> exact fRange_plainOnly _ _ _ _ _

theorem fDiv_plainOnly (n : Nat) (pm2 : Bool) (a b : Nat) : PlainOnly (fDiv n pm2 a b).raised := by
  unfold fDiv
  dsimp only
  split
  · exact .some (by decide)
  · split
    · exact .none
    · split <;> exact fRange_plainOnly _ _ _ _ _

theorem fHalve_plainOnly (n : Nat) (normalizes pm2 : Bool) (v : Nat) :
    PlainOnly (fHalve n normalizes pm2 v).raised := by
  unfold fHalve
  dsimp only
  split
  · split
    · exact .none
    · split
      · exact fUnderflow_plainOnly _ _ _
      · exact .none
  · exact .none

end Sys2Proof.Machine
end

section
/-! PROOFS. Every instruction leaves the flags or ends by raising one condition of rows 21 to 31 (60_exceptions R420,
R425), and what that makes of a step. -/

namespace Sys2Proof.Machine

variable {s u : State} {c : Condition} {info : Info} {k : Result}

/-- The flags and the outcome mark are those of `s`. -/
def State.SameFlags (s u : State) : Prop := u.ifr = s.ifr ∧ u.run = s.run

theorem State.SameFlags.trans {t : State} : s.SameFlags u → u.SameFlags t → s.SameFlags t
  | ⟨hifr, hrun⟩, ⟨hifr', hrun'⟩ => ⟨hifr'.trans hifr, hrun'.trans hrun⟩

theorem State.sameFlags_freeBytes (s : State) (a : Addr) (n : Nat) : s.SameFlags (s.freeBytes a n) :=
  ⟨s.freeBytes_ifr a n, s.freeBytes_run a n⟩

theorem State.sameFlags_freeGprs (s : State) (r : RegNum) (n : Nat) : s.SameFlags (s.freeGprs r n) :=
  ⟨s.freeGprs_ifr r n, s.freeGprs_run r n⟩

theorem State.sameFlags_loadRegisters {n : Nat} {r : RegNum} {a : Addr} (h : s.loadRegisters n r a = some u) :
    s.SameFlags u := by
  rw [State.loadRegisters_x_only h]
  exact ⟨rfl, rfl⟩

theorem State.sameFlags_setFCode (s : State) (v : FCode) : s.SameFlags (s.setFCode v) := by
  cases v <;> exact ⟨rfl, rfl⟩

theorem State.sameFlags_setFValue (s : State) (r : RegNum) (v : FValue) : s.SameFlags (s.setFValue r v) := by
  cases v <;> exact ⟨rfl, rfl⟩

theorem State.sameFlags_setFValueShort (s : State) (r : RegNum) (v : FValue) :
    s.SameFlags (s.setFValueShort r v) := by
  cases v <;> exact ⟨rfl, rfl⟩

/-- A state an instruction may lead to from `s`: the flags as they were, or one condition raised over them. -/
inductive State.Flagged (s : State) : State → Prop
  | kept {t : State} (h : s.SameFlags t) : s.Flagged t
  | raised {u : State} {c : Condition} {info : Info} (h : s.SameFlags u) (hc : Raisable c info) :
    s.Flagged (u.raise c info)

/-- Where the result is a next state, it is one an instruction may lead to. -/
def State.FlagsLawfully (s : State) (r : Result) : Prop := Yields s.Flagged r

/-! ## The endings -/

theorem State.FlagsLawfully.refused (r : Refusal) : s.FlagsLawfully (.refused r) := Yields.refused r

theorem State.FlagsLawfully.complete (h : s.SameFlags u) : s.FlagsLawfully u.complete := by
  rintro t ⟨⟩
  exact .kept h

theorem State.FlagsLawfully.branchIf {taken : Bool} {a : Addr} (h : s.SameFlags u) :
    s.FlagsLawfully (u.branchIf taken a) := by
  rintro t ⟨⟩
  cases taken <;> exact .kept h

theorem State.FlagsLawfully.suppress (h : s.SameFlags u) (hc : Raisable c info) :
    s.FlagsLawfully (u.suppress c info) := by
  rintro t ⟨⟩
  exact .raised h hc

theorem State.FlagsLawfully.suppressBy {stop : Stop} (h : s.SameFlags u) (hstop : stop.Lawful) :
    s.FlagsLawfully (u.suppressBy stop) := by
  cases stop with
  | raised c info => exact .suppress h hstop
  | noValue => exact .refused _

theorem State.FlagsLawfully.addressFault (cause : AddressCause) : s.FlagsLawfully (s.addressFault cause) :=
  .suppress ⟨rfl, rfl⟩ (.address cause)

theorem State.FlagsLawfully.completeWith {o : Option Condition} (h : s.SameFlags u) (ho : PlainOnly o) :
    s.FlagsLawfully (u.completeWith o) := by
  cases o with
  | none => exact .complete h
  | some c => exact .suppress h (.plain (ho c rfl))

theorem State.FlagsLawfully.terminateBy {stop : Stop} (h : s.SameFlags u) (hstop : stop.Lawful) :
    s.FlagsLawfully (terminateBy u stop) := by
  cases stop with
  | raised c info => exact .suppress h hstop
  | noValue => exact .refused _

theorem State.FlagsLawfully.accessTerminated {cause : AddressCause} (h : s.SameFlags u) :
    s.FlagsLawfully (accessTerminated u cause) := .terminateBy h (Stop.lawful_address cause)

/-! ## The checks before an ending -/

theorem State.FlagsLawfully.privileged (hk : s.FlagsLawfully k) : s.FlagsLawfully (s.privileged k) := by
  unfold State.privileged
  split
  · exact hk
  · exact .suppress ⟨rfl, rfl⟩ (.plain (by decide))

theorem State.FlagsLawfully.withEven {r : RegNum} (hk : s.FlagsLawfully k) : s.FlagsLawfully (s.withEven r k) := by
  rcases s.withEven_cases r k with ⟨_, h⟩ | ⟨_, h⟩ <;> rw [h]
  · exact hk
  · exact .addressFault _

theorem State.FlagsLawfully.withFreg {r : RegNum} (hk : s.FlagsLawfully k) : s.FlagsLawfully (s.withFreg r k) := by
  rcases s.withFreg_cases r k with ⟨_, h⟩ | ⟨_, h⟩ <;> rw [h]
  · exact hk
  · exact .addressFault _

theorem State.FlagsLawfully.withFregs {r1 r2 : RegNum} (hk : s.FlagsLawfully k) :
    s.FlagsLawfully (s.withFregs r1 r2 k) := .withFreg (.withFreg hk)

theorem State.FlagsLawfully.withBlock {r : RegNum} {k : Nat → Result} (hk : ∀ b, s.FlagsLawfully (k b)) :
    s.FlagsLawfully (s.withBlock r k) := by
  unfold State.withBlock
  split
  · exact .addressFault _
  · exact hk _

theorem State.FlagsLawfully.withLengths {l1 l2 : RegNum} (hk : s.FlagsLawfully k) :
    s.FlagsLawfully (s.withLengths l1 l2 k) := by
  unfold State.withLengths
  split
  · exact .addressFault _
  · exact hk

/-! ## Storage operands -/

theorem State.FlagsLawfully.withValue {a : Addr} {n : Nat} {k : Nat → Result} (hk : ∀ v, s.FlagsLawfully (k v)) :
    s.FlagsLawfully (s.withValue a n k) := by
  rcases s.withValue_cases a n k with ⟨_, h⟩ | ⟨v, _, h⟩ <;> rw [h]
  · exact .refused _
  · exact hk v

theorem State.FlagsLawfully.withRead {a : Addr} {n : Nat} {k : Nat → Result} (hk : ∀ v, s.FlagsLawfully (k v)) :
    s.FlagsLawfully (s.withRead a n k) := by
  rcases s.withRead_cases a n k with ⟨_, _, h⟩ | ⟨_, _, h⟩ | ⟨_, v, _, h⟩ <;> rw [h]
  · exact .addressFault _
  · exact .refused _
  · exact hk v

theorem State.FlagsLawfully.withWrite {a : Addr} {n v : Nat} {k : State → Result}
    (hk : ∀ m, s.FlagsLawfully (k (s.setMem m))) : s.FlagsLawfully (s.withWrite a n v k) := by
  rcases s.withWrite_cases a n v k with ⟨_, _, h⟩ | ⟨_, h⟩ <;> rw [h]
  · exact .addressFault _
  · exact hk _

theorem State.FlagsLawfully.withUpdate {a : Addr} {f : Byte → Byte} {k : Byte → State → Result}
    (hk : ∀ v m, s.FlagsLawfully (k v (s.setMem m))) : s.FlagsLawfully (s.withUpdate a f k) := by
  rcases s.withUpdate_cases a f k with ⟨_, _, h⟩ | ⟨_, _, h⟩ | ⟨_, v, _, h⟩ <;> rw [h]
  · exact .addressFault _
  · exact .refused _
  · exact hk v _

theorem State.FlagsLawfully.withStorage {r : Except Stop Memory} {k : Memory → Result} (hu : s.SameFlags u)
    (hr : StopsLawfully r) (hk : ∀ m, s.FlagsLawfully (k m)) : s.FlagsLawfully (u.withStorage r k) := by
  rcases u.withStorage_cases r k with ⟨stop, hstop, h⟩ | ⟨m, _, h⟩ <;> rw [h]
  · exact .terminateBy hu (hr stop hstop)
  · exact hk m

theorem State.FlagsLawfully.withFields {a1 a2 : Addr} {n1 n2 : Nat} (hu : s.SameFlags u) (hk : s.FlagsLawfully k) :
    s.FlagsLawfully (s.withFields a1 n1 a2 n2 u k) := by
  unfold State.withFields
  split
  · exact .accessTerminated hu
  · exact hk

theorem State.FlagsLawfully.withDecimal {a : Addr} {n : Nat} {k : Dec → Result} (hu : s.SameFlags u)
    (hk : ∀ d, s.FlagsLawfully (k d)) : s.FlagsLawfully (s.withDecimal a n u k) := by
  rcases s.withDecimal_cases a n u k with ⟨stop, hstop, h⟩ | ⟨d, _, h⟩ <;> rw [h]
  · exact .terminateBy hu (decAt_stopsLawfully s a n stop hstop)
  · exact hk d

theorem State.FlagsLawfully.withFactors {l1 l2 : RegNum} {a1 a2 : Addr} {k : Dec → Dec → Result}
    (hk : ∀ d e, s.FlagsLawfully (k d e)) : s.FlagsLawfully (s.withFactors l1 l2 a1 a2 k) :=
  have hfreed := s.sameFlags_freeBytes a1 (decLength l1)
  .withLengths (.withFields hfreed (.withDecimal hfreed fun d => .withDecimal hfreed (hk d)))

/-! ## Instructions with an ending of their own -/

variable (s)

theorem finishArith_flagsLawfully (r : RegNum) (v : Arith 32) : s.FlagsLawfully (s.finishArith r v) :=
  .completeWith ⟨rfl, rfl⟩ (masked_plainOnly _ _ _ (by decide))

theorem finishArithPair_flagsLawfully (r : RegNum) (v : Arith 64) : s.FlagsLawfully (s.finishArithPair r v) :=
  .completeWith ⟨rfl, rfl⟩ (masked_plainOnly _ _ _ (by decide))

theorem finishDivide_flagsLawfully (r : RegNum) (v : Option (Word × Word)) : s.FlagsLawfully (s.finishDivide r v) := by
  cases v with
  | none => exact .suppress ⟨rfl, rfl⟩ (.plain (by decide))
  | some v => exact .complete ⟨rfl, rfl⟩

theorem finishLong_flagsLawfully (r : RegNum) {v : FResult} (hv : PlainOnly v.raised) :
    s.FlagsLawfully (s.finishLong r v) :=
  .completeWith ((s.sameFlags_setFValue r _).trans (State.sameFlags_setFCode _ _)) hv

theorem finishShort_flagsLawfully (r : RegNum) {v : FResult} (hv : PlainOnly v.raised) :
    s.FlagsLawfully (s.finishShort r v) :=
  .completeWith ((s.sameFlags_setFValueShort r _).trans (State.sameFlags_setFCode _ _)) hv

theorem execCvb_flagsLawfully (r1 x2 b2 : RegNum) (d2 : Disp) : s.FlagsLawfully (execCvb r1 x2 b2 d2 s) := by
  refine .withRead fun v => ?_
  cases decParse 8 v with
  | none => exact .suppress ⟨rfl, rfl⟩ (.plain (by decide))
  | some d =>
    refine .completeWith ⟨rfl, rfl⟩ ?_
    split
    · exact .none
    · exact .some (by decide)

theorem execStm_flagsLawfully (r1 r3 b2 : RegNum) (d2 : Disp) : s.FlagsLawfully (execStm r1 r3 b2 d2 s) := by
  unfold execStm
  split
  · exact .addressFault _
  · split
    · exact .accessTerminated (s.sameFlags_freeBytes _ _)
    · exact .complete ⟨rfl, rfl⟩

theorem execLm_flagsLawfully (r1 r3 b2 : RegNum) (d2 : Disp) : s.FlagsLawfully (execLm r1 r3 b2 d2 s) := by
  unfold execLm
  split
  · exact .addressFault _
  · split
    · exact .accessTerminated (s.sameFlags_freeGprs _ _)
    · split
      · exact .refused _
      · next hl => exact .complete (State.sameFlags_loadRegisters hl)

theorem moveFields_flagsLawfully (n : Nat) (a1 a2 : Addr) (f : Option Byte → Byte → Option Byte) :
    s.FlagsLawfully (s.moveFields n a1 a2 f) :=
  .withStorage (s.sameFlags_freeBytes _ _) (combineFields_stopsLawfully _) fun _ => .complete ⟨rfl, rfl⟩

theorem logicFields_flagsLawfully (n : Nat) (a1 a2 : Addr) (f : Byte → Byte → Byte) :
    s.FlagsLawfully (s.logicFields n a1 a2 f) :=
  .withStorage (s.sameFlags_freeBytes _ _) (combineFields_stopsLawfully _) fun _ => .complete ⟨rfl, rfl⟩

section OneLength

variable (l : Byte) (b1 : RegNum) (d1 : Disp) (b2 : RegNum) (d2 : Disp)

theorem execClc_flagsLawfully : s.FlagsLawfully (execClc l b1 d1 b2 d2 s) := by
  unfold execClc
  split
  · exact .accessTerminated ⟨rfl, rfl⟩
  · exact .withValue fun _ => .withValue fun _ => .complete ⟨rfl, rfl⟩

theorem execTr_flagsLawfully : s.FlagsLawfully (execTr l b1 d1 b2 d2 s) :=
  .withStorage (s.sameFlags_freeBytes _ _) translate_stopsLawfully fun _ => .complete ⟨rfl, rfl⟩

theorem execTrt_flagsLawfully : s.FlagsLawfully (execTrt l b1 d1 b2 d2 s) := by
  unfold execTrt
  split
  · next h => exact .terminateBy ⟨rfl, rfl⟩ (lawful_of_scanFunction_stopped h)
  · exact .complete ⟨rfl, rfl⟩
  · exact .complete ⟨rfl, rfl⟩

theorem execEd_flagsLawfully : s.FlagsLawfully (execEd l b1 d1 b2 d2 s) := by
  unfold execEd
  split
  · next h => exact .terminateBy (s.sameFlags_freeBytes _ _) (edit_stopsLawfully _ h)
  · exact .complete ⟨rfl, rfl⟩

theorem execEdmk_flagsLawfully : s.FlagsLawfully (execEdmk l b1 d1 b2 d2 s) := by
  unfold execEdmk
  split
  · next h => exact .terminateBy (s.sameFlags_freeBytes _ _) (edit_stopsLawfully _ h)
  · next e _ =>
    refine .complete ?_
    cases e.mark <;> exact ⟨rfl, rfl⟩

end OneLength

theorem moveDecimal_flagsLawfully (a1 : Addr) (l1 : Nat) (a2 : Addr) (l2 used : Nat) (m : Option Memory) :
    s.FlagsLawfully (s.moveDecimal a1 l1 a2 l2 used m) := by
  refine .withStorage (s.sameFlags_freeBytes _ _) ?_ fun _ => .complete ⟨rfl, rfl⟩
  split
  · exact .error (Stop.lawful_address _)
  · exact givenOr_stopsLawfully _

theorem finishDecimal_flagsLawfully (a : Addr) (n : Nat) (v : Int) : s.FlagsLawfully (s.finishDecimal a n v) :=
  .completeWith ⟨rfl, rfl⟩ (masked_plainOnly _ _ _ (by decide))

theorem addDecimal_flagsLawfully (a1 : Addr) (n1 : Nat) (a2 : Addr) (n2 : Nat) (op : Int → Int → Int) :
    s.FlagsLawfully (s.addDecimal a1 n1 a2 n2 op) :=
  have hfreed := s.sameFlags_freeBytes a1 n1
  .withFields hfreed (.withDecimal hfreed fun _ => .withDecimal hfreed fun _ => finishDecimal_flagsLawfully s _ _ _)

section TwoLengths

variable (l1 l2 b1 : RegNum) (d1 : Disp) (b2 : RegNum) (d2 : Disp)

theorem execZap_flagsLawfully : s.FlagsLawfully (execZap l1 l2 b1 d1 b2 d2 s) := by
  have hfreed := s.sameFlags_freeBytes (s.eab d1 b1) (decLength l1)
  refine .withFields hfreed (.withDecimal hfreed fun d => ?_)
  split
  · exact .completeWith hfreed (masked_plainOnly _ _ _ (by decide))
  · exact finishDecimal_flagsLawfully s _ _ _

theorem execCp_flagsLawfully : s.FlagsLawfully (execCp l1 l2 b1 d1 b2 d2 s) := by
  unfold execCp
  split
  · exact .accessTerminated ⟨rfl, rfl⟩
  · exact .withDecimal ⟨rfl, rfl⟩ fun _ => .withDecimal ⟨rfl, rfl⟩ fun _ => .complete ⟨rfl, rfl⟩

theorem execMp_flagsLawfully : s.FlagsLawfully (execMp l1 l2 b1 d1 b2 d2 s) := by
  refine .withFactors fun v1 v2 => ?_
  split
  · exact .complete ⟨rfl, rfl⟩
  · exact .terminateBy (s.sameFlags_freeBytes _ _) Stop.lawful_data

theorem execDp_flagsLawfully : s.FlagsLawfully (execDp l1 l2 b1 d1 b2 d2 s) := by
  refine .withFactors fun v1 v2 => ?_
  split
  · exact .suppress ⟨rfl, rfl⟩ (.plain (by decide))
  · exact .complete ⟨rfl, rfl⟩

end TwoLengths

/-! ## All instructions -/

/-- Every instruction but EX; the cases are grouped by the checks that come before the ending. -/
theorem exec_flagsLawfully_of_ne_ex (i : Instr) (hi : ∀ r x b d, i ≠ .ex r x b d) : s.FlagsLawfully (exec i s) := by
  unfold exec
  cases i with
  | ex r x b d => exact absurd rfl (hi r x b d)
  | balr | bctr | bcr | bal | bct | bc | bxh | bxle => exact .branchIf ⟨rfl, rfl⟩
  | svc k => exact .suppress ⟨rfl, rfl⟩ (.svc k)
  | spm | ltr | nr | or | xr | clr | lr | cr | la | srl | sll | sra => exact .complete ⟨rfl, rfl⟩
  | lpr | lnr | lcr | ar | sr | alr | slr | sla => exact finishArith_flagsLawfully s _ _
  | mr | srdl | sldl | srda => exact .withEven (.complete ⟨rfl, rfl⟩)
  | slda => exact .withEven (finishArithPair_flagsLawfully s _ _)
  | dr => exact .withEven (finishDivide_flagsLawfully s _ _)
  | ssk | isk => exact .privileged (.withBlock fun _ => .complete ⟨rfl, rfl⟩)
  | idl | pc | dig | wrd | rdd | sdv | tdv | hdv | ckc | ssp | lsp => exact .privileged (.refused _)
  | lpdr | lndr | ltdr | lcdr | ldr | cdr | lper | lner | lter | lcer | ler | cer =>
    exact .withFregs (.complete ⟨rfl, rfl⟩)
  | hdr => exact .withFregs (finishLong_flagsLawfully s _ (fHalve_plainOnly _ _ _ _))
  | her => exact .withFregs (finishShort_flagsLawfully s _ (fHalve_plainOnly _ _ _ _))
  | adr | sdr | awr | swr => exact .withFregs (finishLong_flagsLawfully s _ (fAdd_plainOnly _ _ _ _ _ _ _ _))
  | aer | ser | aur | sur => exact .withFregs (finishShort_flagsLawfully s _ (fAdd_plainOnly _ _ _ _ _ _ _ _))
  | mdr => exact .withFregs (finishLong_flagsLawfully s _ (fMulLong_plainOnly _ _ _ _))
  | mer => exact .withFregs (finishLong_flagsLawfully s _ (fMulShort_plainOnly _ _ _))
  | ddr => exact .withFregs (finishLong_flagsLawfully s _ (fDiv_plainOnly _ _ _ _))
  | der => exact .withFregs (finishShort_flagsLawfully s _ (fDiv_plainOnly _ _ _ _))
  | ic | lh | ch | mh | n | o | x | cl | l | c | tm | cli => exact .withRead fun _ => .complete ⟨rfl, rfl⟩
  | ah | sh | a | s | al | sl => exact .withRead fun _ => finishArith_flagsLawfully _ _ _
  | m => exact .withEven (.withRead fun _ => .complete ⟨rfl, rfl⟩)
  | d => exact .withEven (.withRead fun _ => finishDivide_flagsLawfully s _ _)
  | cvb => exact execCvb_flagsLawfully s _ _ _ _
  | sth | stc | cvd | st | mvi => exact .withWrite fun _ => .complete ⟨rfl, rfl⟩
  | ts | ni | oi | xi => exact .withUpdate fun _ _ => .complete ⟨rfl, rfl⟩
  | ld | cd | le | ce => exact .withFreg (.withRead fun _ => .complete ⟨rfl, rfl⟩)
  | ad | sd | aw | sw =>
    exact .withFreg (.withRead fun _ => finishLong_flagsLawfully s _ (fAdd_plainOnly _ _ _ _ _ _ _ _))
  | ae | se | au | su =>
    exact .withFreg (.withRead fun _ => finishShort_flagsLawfully s _ (fAdd_plainOnly _ _ _ _ _ _ _ _))
  | md => exact .withFreg (.withRead fun _ => finishLong_flagsLawfully s _ (fMulLong_plainOnly _ _ _ _))
  | me => exact .withFreg (.withRead fun _ => finishLong_flagsLawfully s _ (fMulShort_plainOnly _ _ _))
  | dd => exact .withFreg (.withRead fun _ => finishLong_flagsLawfully s _ (fDiv_plainOnly _ _ _ _))
  | de => exact .withFreg (.withRead fun _ => finishShort_flagsLawfully s _ (fDiv_plainOnly _ _ _ _))
  | std | ste => exact .withFreg (.withWrite fun _ => .complete ⟨rfl, rfl⟩)
  | stm => exact execStm_flagsLawfully s _ _ _ _
  | lm => exact execLm_flagsLawfully s _ _ _ _
  | mvn | mvc | mvz => exact moveFields_flagsLawfully s _ _ _ _
  | nc | oc | xc => exact logicFields_flagsLawfully s _ _ _ _
  | clc => exact execClc_flagsLawfully s _ _ _ _ _
  | tr => exact execTr_flagsLawfully s _ _ _ _ _
  | trt => exact execTrt_flagsLawfully s _ _ _ _ _
  | ed => exact execEd_flagsLawfully s _ _ _ _ _
  | edmk => exact execEdmk_flagsLawfully s _ _ _ _ _
  | mvo | pack | unpk => exact moveDecimal_flagsLawfully s _ _ _ _ _ _
  | zap => exact execZap_flagsLawfully s _ _ _ _ _ _
  | cp => exact execCp_flagsLawfully s _ _ _ _ _ _
  | ap | sp => exact addDecimal_flagsLawfully s _ _ _ _ _
  | mp => exact execMp_flagsLawfully s _ _ _ _ _ _
  | dp => exact execDp_flagsLawfully s _ _ _ _ _ _

theorem opCodeTrap_flagsLawfully : s.FlagsLawfully s.opCodeTrap := .suppress ⟨rfl, rfl⟩ (.plain (by decide))

theorem execEx_flagsLawfully (r1 x2 b2 : RegNum) (d2 : Disp) : s.FlagsLawfully (execEx r1 x2 b2 d2 s) := by
  unfold execEx
  split
  · next hfetch => exact .suppressBy ⟨rfl, rfl⟩ (fetchBytes_stopsLawfully _ _ _ hfetch)
  · unfold State.runSubject
    split
    · next i _ =>
      rcases execSubject_cases i s with hx | ⟨hi, hx⟩ <;> rw [hx]
      · exact .refused _
      · exact exec_flagsLawfully_of_ne_ex s i hi
    · exact opCodeTrap_flagsLawfully s
    · exact opCodeTrap_flagsLawfully s

theorem exec_flagsLawfully (i : Instr) : s.FlagsLawfully (exec i s) := by
  cases i with
  | ex r1 x2 b2 d2 => exact execEx_flagsLawfully s r1 x2 b2 d2
  | _ => exact exec_flagsLawfully_of_ne_ex s _ nofun

/-! ## The step -/

variable {s}

theorem State.Flagged.of_beginInstr {n : Nat} (h : (s.beginInstr n).Flagged u) : s.Flagged u := by
  cases h with
  | kept h => exact .kept h
  | raised h hc => exact .raised h hc

/-- A condition raised has ended the run, which settling leaves so. -/
theorem State.settle_raise (s : State) (c : Condition) (info : Info) : (s.raise c info).settle = s.raise c info :=
  State.settle_of_not_running (s.raise_run_ne c info)

/-- A step leads where an instruction may, and then takes what is pending where nothing was raised. -/
theorem step_flagged {t : State} (h : step s = .next t) : ∃ u, s.Flagged u ∧ t = u.settle := by
  have hraised {u : State} {c : Condition} {info : Info} (hu : s.SameFlags u) (hc : Raisable c info) :
      ∃ v, s.Flagged v ∧ u.raise c info = v.settle := ⟨_, .raised hu hc, (u.settle_raise c info).symm⟩
  unfold step at h
  split at h
  · cases h
  · split at h
    · next hfetch =>
      obtain ⟨c, info, rfl, rfl⟩ := State.fetchStopped_next h
      exact hraised ⟨rfl, rfl⟩ (fetchBytes_stopsLawfully _ _ _ hfetch)
    · next bs _ =>
      have htrap : Raisable .opCodeTrap .none := .plain (by decide)
      split at h
      · obtain ⟨u, hu, rfl⟩ := settleResult_next h
        exact ⟨u, (exec_flagsLawfully _ _ u hu).of_beginInstr, rfl⟩
      · cases h
        exact hraised (u := (s.beginInstr bs.length).advance) ⟨rfl, rfl⟩ htrap
      · cases h
        exact hraised (u := (s.beginInstr bs.length).advance) ⟨rfl, rfl⟩ htrap

end Sys2Proof.Machine
end

section
/-! PROOFS. The obligations of 60_exceptions. -/

open Sys2Proof Sys2Proof.Machine

/-- Settles O8: a condition's priority number is its place in the list of the conditions, counted from 1. -/
theorem conditionNumbers : Obligations.ConditionNumbers := by
  unfold Obligations.ConditionNumbers
  refine ⟨fun c => ⟨rfl, rfl, ?flag, Nat.le_add_left 1 _, c.priority_le, ?fourth, ?third⟩, ?numbers⟩
  case flag => rw [c.weight_div_four, Condition.flag]
  case fourth => simp [Condition.stateInitiated, ← c.priority_le_two_iff]
  case third => simp [Condition.stateInitiated, ← c.priority_le_two_iff]
  case numbers => decide

/-- Settles O33: the privileged check comes before anything else. -/
theorem privilegedOperationTraps : Obligations.PrivilegedOperationTraps := by
  unfold Obligations.PrivilegedOperationTraps
  intro s i hi hpriv hifr
  rw [exec_of_unauthorized i hi hpriv]
  exact State.suppress_eq_suppressed hifr .privilegedOperation .none

/-- Settles O6: whether a code is assigned shows in its first byte, which EX does not modify. -/
theorem unassignedCodeTraps : Obligations.UnassignedCodeTraps := by
  unfold Obligations.UnassignedCodeTraps
  refine ⟨fun s bs op hidle hfetch hdecode => ?fetched, fun s r1 x2 b2 d2 bs op hifr hfetch hdecode => ?subject⟩
  case fetched =>
    obtain ⟨hrun, hifr⟩ := hidle
    rw [step_of_unassigned hrun hfetch hdecode, State.opCodeTrap_eq_suppressed (s := s.beginInstr _) hifr,
      State.suppressed, State.next_beginInstr hfetch]
    rfl
  case subject =>
    rw [exec_ex_of_fetched hfetch, runSubject_of_unassigned (decode_modifySubject_unassigned s r1 hdecode),
      State.opCodeTrap_eq_suppressed hifr]

/-- Settles O7: settling takes the condition whose flag is the lowest bit set. -/
theorem pendingConditionTaken : Obligations.PendingConditionTaken := by
  unfold Obligations.PendingConditionTaken
  intro s bs i t hrun hfetch hdecode hexec hgoes hpending
  obtain ⟨c, hfirst, hflag, hlower⟩ := State.firstPending_eq_lowest hpending
  have hstep : step s = settleResult (exec i { s with ilc := BitVec.ofNat 2 (bs.length / 2) }) :=
    step_of_decoded hrun hfetch hdecode
  refine ⟨c, ?_, hflag, hlower⟩
  rw [hstep, hexec, settleResult, State.settle_of_running hgoes, State.takeInterrupt_of_firstPending hfirst]

/-- Settles O13: a step sets at most one flag, of rows 21 to 31, and clears none. -/
theorem outsideConditionsNeverRaised : Obligations.OutsideConditionsNeverRaised := by
  unfold Obligations.OutsideConditionsNeverRaised
  intro s t h
  obtain ⟨u, hu, rfl⟩ := step_flagged h
  rw [State.settle_ifr]
  cases hu with
  | kept hsame =>
    obtain ⟨hifr, -⟩ := hsame
    rw [hifr]
  | raised hsame hc =>
    obtain ⟨hifr, -⟩ := hsame
    rw [State.raise_ifr, BitVec.and_or_distrib_right, hc.flag_and_outside, BitVec.or_zero, hifr]

/-- Settles O18: with nothing pending, a step that raises nothing stays idle, and a condition raised is taken. -/
theorem endedRunNamesItsFlag : Obligations.EndedRunNamesItsFlag := by
  unfold Obligations.EndedRunNamesItsFlag
  rintro s t ⟨hrun, hidle⟩ h
  obtain ⟨u, hu, rfl⟩ := step_flagged h
  cases hu with
  | kept hsame =>
    obtain ⟨hifr, hmark⟩ := hsame
    rw [u.settle_of_idle (hifr.trans hidle)]
    exact .inl ⟨hmark.trans hrun, hifr.trans hidle⟩
  | @raised u c info hsame hc =>
    obtain ⟨hifr, -⟩ := hsame
    obtain ⟨hlow, hhigh⟩ := hc.priority
    rw [u.settle_raise, u.raise_of_idle c info (hifr.trans hidle)]
    exact .inr ⟨c, info, rfl, rfl, hlow, hhigh, hc.svc_iff, hc.address_iff⟩
end
